-- ==== Sys2Proof/Word.lean ====
section
/-! DEFINITION. The word types of the engine and their plainest arithmetic (spec/00_scope.md R6, R8). -/

namespace Sys2Proof

/-- An 8-bit value: a general register, a memory cell, a port datum (R6). -/
abbrev Byte := BitVec 8

/-- A 16-bit value: a register pair, an index register, SP, PC, an address, a port address (R6). -/
abbrev Word := BitVec 16

/-- `v[15:8]` of a 16-bit value (R8). -/
def Word.hi (w : Word) : Byte := w.extractLsb' 8 8

/-- `v[7:0]` of a 16-bit value (R8). -/
def Word.lo (w : Word) : Byte := w.extractLsb' 0 8

/-- `hi ++ lo`, `hi` in the high bits (R8). -/
def Word.ofBytes (hi lo : Byte) : Word := hi ++ lo

/-- `sext_16(d)` of a displacement or relative offset byte (R8, R122, R123). -/
def Byte.sext (d : Byte) : Word := d.signExtend 16

end Sys2Proof
end

