-- ==== Sys2Proof/Syntax.lean ====
section
/-! DEFINITION. The instructions: one constructor of `Instr` per row of spec/opcode_table.json, and the
types of their operands (spec/30_encoding.md R110 to R126, R143, R144). -/

namespace Sys2Proof

/-- The five opcode spaces, one primary timing table each (30_encoding.md R127, 10_state.md R57). -/
inductive Space where
  | base | cb | ed | xy | xycb
  deriving DecidableEq, Repr

/-- The index register that a DD (IX) or FD (IY) byte selects (30_encoding.md R111). -/
inductive Idx where
  | ix | iy
  deriving DecidableEq, Repr

/-- A half of an index register (10_state.md R34). -/
inductive Half where
  | high | low
  deriving DecidableEq, Repr

/-- `reg8[k]` for k other than 6, the memory operand (30_encoding.md R116). -/
inductive Reg8 where
  | b | c | d | e | h | l | a
  deriving DecidableEq, Repr

/-- `rp[p]` (30_encoding.md R117). -/
inductive Rp where
  | bc | de | hl | sp
  deriving DecidableEq, Repr

/-- `rp2[p]`, the field of PUSH and POP (30_encoding.md R118). -/
inductive Rp2 where
  | bc | de | hl | af
  deriving DecidableEq, Repr

/-- `rp[p]` behind DD or FD, where HL means the index register (30_encoding.md R119 (a)). -/
inductive RpXY where
  | bc | de | xy | sp
  deriving DecidableEq, Repr

/-- `cc[y]` (30_encoding.md R120). -/
inductive Cond where
  | nz | z | nc | c | po | pe | p | m
  deriving DecidableEq, Repr

/-- The four conditions of JR cc (30_encoding.md R120). -/
inductive JrCond where
  | nz | z | nc | c
  deriving DecidableEq, Repr

/-- `alu[y]` (30_encoding.md R143). -/
inductive AluOp where
  | add | adc | sub | sbc | and | xor | or | cp
  deriving DecidableEq, Repr

/-- `rot[y]` (30_encoding.md R144). -/
inductive Rot where
  | rlc | rrc | rl | rr | sla | sra | sll | srl
  deriving DecidableEq, Repr

/-- The byte that makes a DD or FD be discarded: DD, ED or FD (30_encoding.md R137). -/
inductive NextByte where
  | dd | ed | fd
  deriving DecidableEq, Repr

/-- The instructions.
`y` is the field that keeps apart the encodings of an undocumented second encoding (R136), `i` the base
instruction that runs behind a DD or FD byte (R137), `w` the byte after a discarded DD or FD (R137).
The constructors with operands stand first: Lean's compiled code numbers no more than 244 of those. -/
inductive Instr where
  -- base space (R128 to R131), with operands in the term
  /-- DJNZ e (R425) -/
  | djnz (e : Byte)
  /-- JR e (R423) -/
  | jr (e : Byte)
  /-- JR cc,e (R424) -/
  | jrCc (jc : JrCond) (e : Byte)
  /-- LD rr,nn (R240) -/
  | ldRpNn (p : Rp) (nn : Word)
  /-- ADD HL,rr (R360) -/
  | addHLRp (p : Rp)
  /-- LD (nn),HL (R245) -/
  | ldMnnHL (nn : Word)
  /-- LD HL,(nn) (R242) -/
  | ldHLMnn (nn : Word)
  /-- LD (nn),A (R210) -/
  | ldMnnA (nn : Word)
  /-- LD A,(nn) (R207) -/
  | ldAMnn (nn : Word)
  /-- INC rr (R364) -/
  | incRp (p : Rp)
  /-- DEC rr (R365) -/
  | decRp (p : Rp)
  /-- INC r (R329) -/
  | incR (r : Reg8)
  /-- DEC r (R333) -/
  | decR (r : Reg8)
  /-- LD r,n (R201) -/
  | ldRN (r : Reg8) (n : Byte)
  /-- LD (HL),n (R204) -/
  | ldMhlN (n : Byte)
  /-- LD r,r' (R200) -/
  | ldRR (r : Reg8) (r' : Reg8)
  /-- LD r,(HL) (R202) -/
  | ldRMhl (r : Reg8)
  /-- LD (HL),r (R203) -/
  | ldMhlR (r : Reg8)
  /-- ADD A,r (R321) -/
  | addR (r : Reg8)
  /-- ADD A,n (R321) -/
  | addN (n : Byte)
  /-- ADC A,r (R322) -/
  | adcR (r : Reg8)
  /-- ADC A,n (R322) -/
  | adcN (n : Byte)
  /-- SUB r (R323) -/
  | subR (r : Reg8)
  /-- SUB n (R323) -/
  | subN (n : Byte)
  /-- SBC A,r (R324) -/
  | sbcR (r : Reg8)
  /-- SBC A,n (R324) -/
  | sbcN (n : Byte)
  /-- AND r (R325) -/
  | andR (r : Reg8)
  /-- AND n (R325) -/
  | andN (n : Byte)
  /-- XOR r (R326) -/
  | xorR (r : Reg8)
  /-- XOR n (R326) -/
  | xorN (n : Byte)
  /-- OR r (R327) -/
  | orR (r : Reg8)
  /-- OR n (R327) -/
  | orN (n : Byte)
  /-- CP r (R328) -/
  | cpR (r : Reg8)
  /-- CP n (R328) -/
  | cpN (n : Byte)
  /-- RET cc (R431) -/
  | retCc (cc : Cond)
  /-- POP qq (R252) -/
  | popQq (q : Rp2)
  /-- PUSH qq (R250) -/
  | pushQq (q : Rp2)
  /-- JP nn (R421) -/
  | jpNn (nn : Word)
  /-- OUT (n),A (R463) -/
  | outNA (n : Byte)
  /-- IN A,(n) (R460) -/
  | inAN (n : Byte)
  /-- CALL nn (R428) -/
  | callNn (nn : Word)
  /-- JP cc,nn (R422) -/
  | jpCcNn (cc : Cond) (nn : Word)
  /-- CALL cc,nn (R429) -/
  | callCcNn (cc : Cond) (nn : Word)
  /-- RST p (R432) -/
  | rst (k : Fin 8)
  -- CB space (R132), with operands in the term
  /-- RLC r (R385) -/
  | rlcR (r : Reg8)
  /-- RRC r (R386) -/
  | rrcR (r : Reg8)
  /-- RL r (R387) -/
  | rlR (r : Reg8)
  /-- RR r (R388) -/
  | rrR (r : Reg8)
  /-- SLA r (R389) -/
  | slaR (r : Reg8)
  /-- SRA r (R390) -/
  | sraR (r : Reg8)
  /-- SLL r (R391) -/
  | sllR (r : Reg8)
  /-- SRL r (R392) -/
  | srlR (r : Reg8)
  /-- BIT b,r (R393) -/
  | bitR (b : Fin 8) (r : Reg8)
  /-- BIT b,(HL) (R393) -/
  | bitMhl (b : Fin 8)
  /-- RES b,r (R394) -/
  | resR (b : Fin 8) (r : Reg8)
  /-- RES b,(HL) (R394) -/
  | resMhl (b : Fin 8)
  /-- SET b,r (R395) -/
  | setR (b : Fin 8) (r : Reg8)
  /-- SET b,(HL) (R395) -/
  | setMhl (b : Fin 8)
  -- ED space (R133, R136), with operands in the term
  /-- IN r,(C) (R461) -/
  | inRC (r : Reg8)
  /-- OUT (C),r (R464) -/
  | outCR (r : Reg8)
  /-- SBC HL,rr (R363) -/
  | sbcHLRp (p : Rp)
  /-- ADC HL,rr (R362) -/
  | adcHLRp (p : Rp)
  /-- LD (nn),rr (R246) -/
  | ldMnnRp (p : Rp) (nn : Word)
  /-- LD rr,(nn) (R243) -/
  | ldRpMnn (p : Rp) (nn : Word)
  /-- NEG (alias) (R339) -/
  | negAlias (y : Fin 8)
  /-- RETN (alias) (R433) -/
  | retnAlias (y : Fin 8)
  /-- IM 0 (alias) (R477) -/
  | im0Alias (y : Fin 8)
  -- DD space (R134, R137), with operands in the term
  /-- ADD IX,rr (R361) -/
  | addIXRp (p : RpXY)
  /-- LD IX,nn (R241) -/
  | ldIXNn (nn : Word)
  /-- LD (nn),IX (R247) -/
  | ldMnnIX (nn : Word)
  /-- LD IX,(nn) (R244) -/
  | ldIXMnn (nn : Word)
  /-- LD IXH,n (R215) -/
  | ldIXHN (n : Byte)
  /-- LD IXL,n (R215) -/
  | ldIXLN (n : Byte)
  /-- INC (IX+d) (R331) -/
  | incMixd (d : Byte)
  /-- DEC (IX+d) (R335) -/
  | decMixd (d : Byte)
  /-- LD (IX+d),n (R213) -/
  | ldMixdN (d : Byte) (n : Byte)
  /-- LD r,(IX+d) (R211) -/
  | ldRMixd (r : Reg8) (d : Byte)
  /-- LD (IX+d),r (R212) -/
  | ldMixdR (d : Byte) (r : Reg8)
  /-- ADD A,(IX+d) (R321) -/
  | addMixd (d : Byte)
  /-- ADC A,(IX+d) (R322) -/
  | adcMixd (d : Byte)
  /-- SUB (IX+d) (R323) -/
  | subMixd (d : Byte)
  /-- SBC A,(IX+d) (R324) -/
  | sbcMixd (d : Byte)
  /-- AND (IX+d) (R325) -/
  | andMixd (d : Byte)
  /-- XOR (IX+d) (R326) -/
  | xorMixd (d : Byte)
  /-- OR (IX+d) (R327) -/
  | orMixd (d : Byte)
  /-- CP (IX+d) (R328) -/
  | cpMixd (d : Byte)
  /-- DD + base instruction (fall-through, HL not substituted) (R137) -/
  | ddBase (i : Instr)
  /-- DD discarded before a further prefix (R137) -/
  | ddDiscarded (w : NextByte)
  -- FD space (R134, R137), with operands in the term
  /-- ADD IY,rr (R361) -/
  | addIYRp (p : RpXY)
  /-- LD IY,nn (R241) -/
  | ldIYNn (nn : Word)
  /-- LD (nn),IY (R247) -/
  | ldMnnIY (nn : Word)
  /-- LD IY,(nn) (R244) -/
  | ldIYMnn (nn : Word)
  /-- LD IYH,n (R215) -/
  | ldIYHN (n : Byte)
  /-- LD IYL,n (R215) -/
  | ldIYLN (n : Byte)
  /-- INC (IY+d) (R331) -/
  | incMiyd (d : Byte)
  /-- DEC (IY+d) (R335) -/
  | decMiyd (d : Byte)
  /-- LD (IY+d),n (R213) -/
  | ldMiydN (d : Byte) (n : Byte)
  /-- LD r,(IY+d) (R211) -/
  | ldRMiyd (r : Reg8) (d : Byte)
  /-- LD (IY+d),r (R212) -/
  | ldMiydR (d : Byte) (r : Reg8)
  /-- ADD A,(IY+d) (R321) -/
  | addMiyd (d : Byte)
  /-- ADC A,(IY+d) (R322) -/
  | adcMiyd (d : Byte)
  /-- SUB (IY+d) (R323) -/
  | subMiyd (d : Byte)
  /-- SBC A,(IY+d) (R324) -/
  | sbcMiyd (d : Byte)
  /-- AND (IY+d) (R325) -/
  | andMiyd (d : Byte)
  /-- XOR (IY+d) (R326) -/
  | xorMiyd (d : Byte)
  /-- OR (IY+d) (R327) -/
  | orMiyd (d : Byte)
  /-- CP (IY+d) (R328) -/
  | cpMiyd (d : Byte)
  /-- FD + base instruction (fall-through, HL not substituted) (R137) -/
  | fdBase (i : Instr)
  /-- FD discarded before a further prefix (R137) -/
  | fdDiscarded (w : NextByte)
  -- DD CB space (R135, R138), with operands in the term
  /-- RLC (IX+d) (R385) -/
  | rlcMixd (d : Byte)
  /-- RRC (IX+d) (R386) -/
  | rrcMixd (d : Byte)
  /-- RL (IX+d) (R387) -/
  | rlMixd (d : Byte)
  /-- RR (IX+d) (R388) -/
  | rrMixd (d : Byte)
  /-- SLA (IX+d) (R389) -/
  | slaMixd (d : Byte)
  /-- SRA (IX+d) (R390) -/
  | sraMixd (d : Byte)
  /-- SLL (IX+d) (R391) -/
  | sllMixd (d : Byte)
  /-- SRL (IX+d) (R392) -/
  | srlMixd (d : Byte)
  /-- BIT b,(IX+d) (R393) -/
  | bitMixd (b : Fin 8) (d : Byte)
  /-- RES b,(IX+d) (R394) -/
  | resMixd (b : Fin 8) (d : Byte)
  /-- SET b,(IX+d) (R395) -/
  | setMixd (b : Fin 8) (d : Byte)
  /-- rot[y] (IX+d) with copy to reg8[z] (R396) -/
  | rotMixdCopy (k : Rot) (d : Byte) (r : Reg8)
  /-- BIT y,(IX+d) (z != 6 alias) (R396) -/
  | bitMixdAlias (b : Fin 8) (d : Byte) (r : Reg8)
  /-- RES y,(IX+d) with copy to reg8[z] (R396) -/
  | resMixdCopy (b : Fin 8) (d : Byte) (r : Reg8)
  /-- SET y,(IX+d) with copy to reg8[z] (R396) -/
  | setMixdCopy (b : Fin 8) (d : Byte) (r : Reg8)
  -- FD CB space (R135, R138), with operands in the term
  /-- RLC (IY+d) (R385) -/
  | rlcMiyd (d : Byte)
  /-- RRC (IY+d) (R386) -/
  | rrcMiyd (d : Byte)
  /-- RL (IY+d) (R387) -/
  | rlMiyd (d : Byte)
  /-- RR (IY+d) (R388) -/
  | rrMiyd (d : Byte)
  /-- SLA (IY+d) (R389) -/
  | slaMiyd (d : Byte)
  /-- SRA (IY+d) (R390) -/
  | sraMiyd (d : Byte)
  /-- SLL (IY+d) (R391) -/
  | sllMiyd (d : Byte)
  /-- SRL (IY+d) (R392) -/
  | srlMiyd (d : Byte)
  /-- BIT b,(IY+d) (R393) -/
  | bitMiyd (b : Fin 8) (d : Byte)
  /-- RES b,(IY+d) (R394) -/
  | resMiyd (b : Fin 8) (d : Byte)
  /-- SET b,(IY+d) (R395) -/
  | setMiyd (b : Fin 8) (d : Byte)
  /-- rot[y] (IY+d) with copy to reg8[z] (R396) -/
  | rotMiydCopy (k : Rot) (d : Byte) (r : Reg8)
  /-- BIT y,(IY+d) (z != 6 alias) (R396) -/
  | bitMiydAlias (b : Fin 8) (d : Byte) (r : Reg8)
  /-- RES y,(IY+d) with copy to reg8[z] (R396) -/
  | resMiydCopy (b : Fin 8) (d : Byte) (r : Reg8)
  /-- SET y,(IY+d) with copy to reg8[z] (R396) -/
  | setMiydCopy (b : Fin 8) (d : Byte) (r : Reg8)
  -- base space (R128 to R131), no operand in the term
  /-- NOP (R470) -/
  | nop
  /-- EX AF,AF' (R262) -/
  | exAfAf
  /-- LD (BC),A (R208) -/
  | ldMbcA
  /-- LD A,(BC) (R205) -/
  | ldAMbc
  /-- LD (DE),A (R209) -/
  | ldMdeA
  /-- LD A,(DE) (R206) -/
  | ldAMde
  /-- INC (HL) (R330) -/
  | incMhl
  /-- DEC (HL) (R334) -/
  | decMhl
  /-- RLCA (R380) -/
  | rlca
  /-- RRCA (R381) -/
  | rrca
  /-- RLA (R382) -/
  | rla
  /-- RRA (R383) -/
  | rra
  /-- DAA (R337) -/
  | daa
  /-- CPL (R338) -/
  | cpl
  /-- SCF (R340) -/
  | scf
  /-- CCF (R341) -/
  | ccf
  /-- HALT (R474) -/
  | halt
  /-- ADD A,(HL) (R321) -/
  | addMhl
  /-- ADC A,(HL) (R322) -/
  | adcMhl
  /-- SUB (HL) (R323) -/
  | subMhl
  /-- SBC A,(HL) (R324) -/
  | sbcMhl
  /-- AND (HL) (R325) -/
  | andMhl
  /-- XOR (HL) (R326) -/
  | xorMhl
  /-- OR (HL) (R327) -/
  | orMhl
  /-- CP (HL) (R328) -/
  | cpMhl
  /-- RET (R430) -/
  | ret
  /-- EXX (R263) -/
  | exx
  /-- JP (HL) (R426) -/
  | jpHL
  /-- LD SP,HL (R248) -/
  | ldSpHL
  /-- EX (SP),HL (R261) -/
  | exSpHL
  /-- EX DE,HL (R260) -/
  | exDeHL
  /-- DI (R475) -/
  | di
  /-- EI (R476) -/
  | ei
  -- CB space (R132), no operand in the term
  /-- RLC (HL) (R385) -/
  | rlcMhl
  /-- RRC (HL) (R386) -/
  | rrcMhl
  /-- RL (HL) (R387) -/
  | rlMhl
  /-- RR (HL) (R388) -/
  | rrMhl
  /-- SLA (HL) (R389) -/
  | slaMhl
  /-- SRA (HL) (R390) -/
  | sraMhl
  /-- SLL (HL) (R391) -/
  | sllMhl
  /-- SRL (HL) (R392) -/
  | srlMhl
  -- ED space (R133, R136), no operand in the term
  /-- IN F,(C) (R462) -/
  | inFC
  /-- OUT (C),0 (R465) -/
  | outC0
  /-- NEG (R339) -/
  | neg
  /-- RETN (R433) -/
  | retn
  /-- RETI (R434) -/
  | reti
  /-- IM 0 (R477) -/
  | im0
  /-- IM 1 (R478) -/
  | im1
  /-- IM 2 (R479) -/
  | im2
  /-- IM 1 (alias) (R478) -/
  | im1Alias
  /-- IM 2 (alias) (R479) -/
  | im2Alias
  /-- LD I,A (R216) -/
  | ldIA
  /-- LD R,A (R217) -/
  | ldRA
  /-- LD A,I (R218) -/
  | ldAI
  /-- LD A,R (R219) -/
  | ldAR
  /-- RRD (R398) -/
  | rrd
  /-- RLD (R397) -/
  | rld
  /-- LDI (R282) -/
  | ldi
  /-- CPI (R286) -/
  | cpi
  /-- INI (R290) -/
  | ini
  /-- OUTI (R294) -/
  | outi
  /-- LDD (R283) -/
  | ldd
  /-- CPD (R287) -/
  | cpd
  /-- IND (R291) -/
  | ind
  /-- OUTD (R295) -/
  | outd
  /-- LDIR (R284) -/
  | ldir
  /-- CPIR (R288) -/
  | cpir
  /-- INIR (R292) -/
  | inir
  /-- OTIR (R296) -/
  | otir
  /-- LDDR (R285) -/
  | lddr
  /-- CPDR (R289) -/
  | cpdr
  /-- INDR (R293) -/
  | indr
  /-- OTDR (R298) -/
  | otdr
  -- DD space (R134, R137), no operand in the term
  /-- INC IX (R366) -/
  | incIX
  /-- DEC IX (R367) -/
  | decIX
  /-- INC IXH (R332) -/
  | incIXH
  /-- DEC IXH (R336) -/
  | decIXH
  /-- INC IXL (R332) -/
  | incIXL
  /-- DEC IXL (R336) -/
  | decIXL
  /-- POP IX (R253) -/
  | popIX
  /-- EX (SP),IX (R264) -/
  | exSpIX
  /-- PUSH IX (R251) -/
  | pushIX
  /-- JP (IX) (R427) -/
  | jpIX
  /-- LD SP,IX (R249) -/
  | ldSpIX
  /-- LD B,IXH (R214) -/
  | ldBIXH
  /-- LD B,IXL (R214) -/
  | ldBIXL
  /-- LD C,IXH (R214) -/
  | ldCIXH
  /-- LD C,IXL (R214) -/
  | ldCIXL
  /-- LD D,IXH (R214) -/
  | ldDIXH
  /-- LD D,IXL (R214) -/
  | ldDIXL
  /-- LD E,IXH (R214) -/
  | ldEIXH
  /-- LD E,IXL (R214) -/
  | ldEIXL
  /-- LD IXH,B (R214) -/
  | ldIXHB
  /-- LD IXH,C (R214) -/
  | ldIXHC
  /-- LD IXH,D (R214) -/
  | ldIXHD
  /-- LD IXH,E (R214) -/
  | ldIXHE
  /-- LD IXH,IXH (R214) -/
  | ldIXHIXH
  /-- LD IXH,IXL (R214) -/
  | ldIXHIXL
  /-- LD IXH,A (R214) -/
  | ldIXHA
  /-- LD IXL,B (R214) -/
  | ldIXLB
  /-- LD IXL,C (R214) -/
  | ldIXLC
  /-- LD IXL,D (R214) -/
  | ldIXLD
  /-- LD IXL,E (R214) -/
  | ldIXLE
  /-- LD IXL,IXH (R214) -/
  | ldIXLIXH
  /-- LD IXL,IXL (R214) -/
  | ldIXLIXL
  /-- LD IXL,A (R214) -/
  | ldIXLA
  /-- LD A,IXH (R214) -/
  | ldAIXH
  /-- LD A,IXL (R214) -/
  | ldAIXL
  /-- ADD A,IXH (R321) -/
  | addIXH
  /-- ADD A,IXL (R321) -/
  | addIXL
  /-- ADC A,IXH (R322) -/
  | adcIXH
  /-- ADC A,IXL (R322) -/
  | adcIXL
  /-- SUB IXH (R323) -/
  | subIXH
  /-- SUB IXL (R323) -/
  | subIXL
  /-- SBC A,IXH (R324) -/
  | sbcIXH
  /-- SBC A,IXL (R324) -/
  | sbcIXL
  /-- AND IXH (R325) -/
  | andIXH
  /-- AND IXL (R325) -/
  | andIXL
  /-- XOR IXH (R326) -/
  | xorIXH
  /-- XOR IXL (R326) -/
  | xorIXL
  /-- OR IXH (R327) -/
  | orIXH
  /-- OR IXL (R327) -/
  | orIXL
  /-- CP IXH (R328) -/
  | cpIXH
  /-- CP IXL (R328) -/
  | cpIXL
  -- FD space (R134, R137), no operand in the term
  /-- INC IY (R366) -/
  | incIY
  /-- DEC IY (R367) -/
  | decIY
  /-- INC IYH (R332) -/
  | incIYH
  /-- DEC IYH (R336) -/
  | decIYH
  /-- INC IYL (R332) -/
  | incIYL
  /-- DEC IYL (R336) -/
  | decIYL
  /-- POP IY (R253) -/
  | popIY
  /-- EX (SP),IY (R264) -/
  | exSpIY
  /-- PUSH IY (R251) -/
  | pushIY
  /-- JP (IY) (R427) -/
  | jpIY
  /-- LD SP,IY (R249) -/
  | ldSpIY
  /-- LD B,IYH (R214) -/
  | ldBIYH
  /-- LD B,IYL (R214) -/
  | ldBIYL
  /-- LD C,IYH (R214) -/
  | ldCIYH
  /-- LD C,IYL (R214) -/
  | ldCIYL
  /-- LD D,IYH (R214) -/
  | ldDIYH
  /-- LD D,IYL (R214) -/
  | ldDIYL
  /-- LD E,IYH (R214) -/
  | ldEIYH
  /-- LD E,IYL (R214) -/
  | ldEIYL
  /-- LD IYH,B (R214) -/
  | ldIYHB
  /-- LD IYH,C (R214) -/
  | ldIYHC
  /-- LD IYH,D (R214) -/
  | ldIYHD
  /-- LD IYH,E (R214) -/
  | ldIYHE
  /-- LD IYH,IYH (R214) -/
  | ldIYHIYH
  /-- LD IYH,IYL (R214) -/
  | ldIYHIYL
  /-- LD IYH,A (R214) -/
  | ldIYHA
  /-- LD IYL,B (R214) -/
  | ldIYLB
  /-- LD IYL,C (R214) -/
  | ldIYLC
  /-- LD IYL,D (R214) -/
  | ldIYLD
  /-- LD IYL,E (R214) -/
  | ldIYLE
  /-- LD IYL,IYH (R214) -/
  | ldIYLIYH
  /-- LD IYL,IYL (R214) -/
  | ldIYLIYL
  /-- LD IYL,A (R214) -/
  | ldIYLA
  /-- LD A,IYH (R214) -/
  | ldAIYH
  /-- LD A,IYL (R214) -/
  | ldAIYL
  /-- ADD A,IYH (R321) -/
  | addIYH
  /-- ADD A,IYL (R321) -/
  | addIYL
  /-- ADC A,IYH (R322) -/
  | adcIYH
  /-- ADC A,IYL (R322) -/
  | adcIYL
  /-- SUB IYH (R323) -/
  | subIYH
  /-- SUB IYL (R323) -/
  | subIYL
  /-- SBC A,IYH (R324) -/
  | sbcIYH
  /-- SBC A,IYL (R324) -/
  | sbcIYL
  /-- AND IYH (R325) -/
  | andIYH
  /-- AND IYL (R325) -/
  | andIYL
  /-- XOR IYH (R326) -/
  | xorIYH
  /-- XOR IYL (R326) -/
  | xorIYL
  /-- OR IYH (R327) -/
  | orIYH
  /-- OR IYL (R327) -/
  | orIYL
  /-- CP IYH (R328) -/
  | cpIYH
  /-- CP IYL (R328) -/
  | cpIYL
  deriving DecidableEq, Repr

end Sys2Proof
end

