-- ==== Sys2Proof/Config.lean ====
section
/-! DEFINITION. What is fixed for one engine: the parameters of spec/00_scope.md R7, the form of a timing
specification and of the seven tables, the events of the access trace, and the free values. -/

namespace Sys2Proof

/-! ## The parameters (00_scope.md R7) -/

/-- `REFRESH_POLICY` (10_state.md R38, decision D12). -/
inductive RefreshPolicy where
  | static | m1
  deriving DecidableEq, Repr, Inhabited

/-- `UNDOC_FLAG_POLICY` (00_scope.md R11, decision D16). -/
inductive UndocFlagPolicy where
  | exact | draw
  deriving DecidableEq, Repr

/-- `ED_UNDOC`, `DDFD_UNDOC`, `IDXCB_UNDOC` (30_encoding.md R136 to R138, decision D15). -/
inductive UndocPolicy where
  | unimplemented | execute
  deriving DecidableEq, Repr

/-- `NMI_HALT_RESUME` (60_exceptions.md R501, decision D18). -/
inductive NmiHaltResume where
  | afterHalt | atHalt
  deriving DecidableEq, Repr

/-- `MEM_MODEL` (20_memory.md R87, decision D3). -/
inductive MemModel where
  | ram | collaborator
  deriving DecidableEq, Repr

/-- The parameters that are neither `RESET_ADDRESS` (the state `resetAddress`) nor `TIMING_SPEC` (the seven
tables built from it).
`outZero` is the byte OUT (C),0 writes: 0x00 by 48_io_cpu.md R465, any value by 93_implementation_defined.md I14.
DESIGN CHOICE (log 2, log 17), safe: a statement about every state holds for every value. -/
structure Params where
  nmiTStates : Nat
  refresh : RefreshPolicy
  undocFlags : UndocFlagPolicy
  edUndoc : UndocPolicy
  ddfdUndoc : UndocPolicy
  idxcbUndoc : UndocPolicy
  nmiHaltResume : NmiHaltResume
  memModel : MemModel
  outZero : Byte
  deriving DecidableEq, Repr

/-! ## Timing specification and tables -/

/-- A byte slot of a pattern (70_reset_and_hazards.md R556). -/
inductive Slot where
  | lit (b : Byte)
  | reg (base : Byte) (k : Nat)
  | reg2 (base : Byte) (k1 k2 : Nat)
  | imm8
  | off
  | imm16
  deriving DecidableEq, Repr

/-- One or two declared cycle counts (R555). -/
inductive Counts where
  | one (c : Nat)
  | two (c1 c2 : Nat)
  deriving DecidableEq, Repr

/-- One entry of a `TIMING_SPEC` (R555). -/
structure TimingEntry where
  pattern : List Slot
  counts : Counts
  deriving DecidableEq, Repr

/-- A table of 256 entries; `none` is the unset entry, the spec's -1 (10_state.md R57; log 22). -/
abbrev TimingTable := Vector (Option Nat) 256

/-- The seven tables (10_state.md R57). -/
structure TimingTables where
  base : TimingTable
  cb : TimingTable
  ed : TimingTable
  xy : TimingTable
  xycb : TimingTable
  baseAlt : TimingTable
  edAlt : TimingTable
  deriving DecidableEq, Repr

/-! ## The access trace (20_memory.md R94) -/

/-- One access of a collaborator; a word access is one event (decision D19). -/
inductive Event where
  | fetch (addr : Word) (v : Byte)
  | read8 (addr : Word) (v : Byte)
  | read16 (addr : Word) (v : Word)
  | write8 (addr : Word) (v : Byte)
  | write16 (addr : Word) (v : Word)
  | portIn (port : Word) (v : Byte)
  | portOut (port : Word) (v : Byte)
  deriving DecidableEq, Repr

/-! ## Free values: constants without a body, so that no proof can see them -/

/-- What `REFRESH_POLICY` is at `State.reset`: the spec gives no default (R7; log 3). -/
opaque Config.refreshPolicy : RefreshPolicy

/-- The free flag bits of one execution under `UNDOC_FLAG_POLICY = Draw`, by draw number, in the bit places of F
(R11, R40; log 5). -/
opaque Config.freeFlags : Nat → Byte

/-- What the I/O collaborator answers to a read of a port, after the accesses of the trace (20_memory.md R91; log 6). -/
opaque Config.ioAnswer : List Event → Word → Byte

/-- What the memory collaborator answers to a read under `MEM_MODEL = Collaborator`, after the accesses of the
trace (20_memory.md R87; log 7). -/
opaque Config.memAnswer : List Event → Word → Byte

end Sys2Proof
end

