-- ==== Sys2Proof/WellFormed.lean ====
section
/-! DEFINITION. Which instruction terms are instructions of the hardware: the values the opcode table lets
an operand field take (spec/30_encoding.md R136, R137, R142). -/

namespace Sys2Proof

/-- `H` or `L`, the registers that an index half replaces behind DD or FD (30_encoding.md R119 (c)). -/
def Reg8.isHL : Reg8 → Bool
  | .h => true
  | .l => true
  | _ => false

/-- The base instructions whose byte behind DD or FD is not an implemented DD/FD opcode (R134), so that the
DD or FD falls through to them under `DDFD_UNDOC = Execute` (R137). -/
def Instr.fallsThrough : Instr → Bool
  | .nop | .exAfAf | .ldMbcA | .ldAMbc | .ldMdeA | .ldAMde => true
  | .rlca | .rrca | .rla | .rra | .daa | .cpl | .scf | .ccf => true
  | .halt | .ret | .exx | .exDeHL | .di | .ei => true
  | .djnz _ | .jr _ | .jrCc _ _ | .ldMnnA _ | .ldAMnn _ => true
  | .ldRpNn p _ => p != .hl
  | .incRp p => p != .hl
  | .decRp p => p != .hl
  | .incR r => !r.isHL
  | .decR r => !r.isHL
  | .ldRN r _ => !r.isHL
  | .ldRR r r' => !r.isHL && !r'.isHL
  | .addR r => !r.isHL
  | .adcR r => !r.isHL
  | .subR r => !r.isHL
  | .sbcR r => !r.isHL
  | .andR r => !r.isHL
  | .xorR r => !r.isHL
  | .orR r => !r.isHL
  | .cpR r => !r.isHL
  | .addN _ | .adcN _ | .subN _ | .sbcN _ | .andN _ | .xorN _ | .orN _ | .cpN _ => true
  | .popQq q => q != .hl
  | .pushQq q => q != .hl
  | .retCc _ | .jpNn _ | .outNA _ | .inAN _ => true
  | .callNn _ | .jpCcNn _ _ | .callCcNn _ _ | .rst _ => true
  | _ => false

/-- The check a term must pass to be an instruction: the `y` field of a second encoding has one of the
values the table lists (R136), and only a base instruction that falls through stands behind DD or FD (R137). -/
def Instr.wellFormed : Instr → Bool
  | .negAlias y => y != 0
  | .retnAlias y => y.val ≥ 2
  | .im0Alias y => y == 1 || y == 4 || y == 5
  | .ddBase i => i.fallsThrough
  | .fdBase i => i.fallsThrough
  | _ => true

end Sys2Proof
end

