-- ==== Sys2Proof/Decode.lean ====
section
/-! DEFINITION. The decoder, total on any bytes (spec/30_encoding.md R110 to R144), and after it the encoder,
both written from the opcode map of that file. -/

namespace Sys2Proof

/-! ## Fields of an opcode byte (30_encoding.md R112) -/

/-- `op[7:6]`. -/
def opX (op : Byte) : Nat := op.toNat / 64
/-- `op[5:3]`. -/
def opY (op : Byte) : Nat := op.toNat / 8 % 8
/-- `op[2:0]`. -/
def opZ (op : Byte) : Nat := op.toNat % 8
/-- `op[5:4]`. -/
def opP (op : Byte) : Nat := op.toNat / 16 % 4
/-- `op[3]`. -/
def opQ (op : Byte) : Nat := op.toNat / 8 % 2
/-- The byte with these `x`, `y`, `z` fields. -/
def opXYZ (x y z : Nat) : Byte := BitVec.ofNat 8 (x * 64 + y * 8 + z)

/-! ## Operand fields -/

/-- `reg8[k]`, none for the memory operand 6 (R116). -/
def Reg8.ofField : Nat → Option Reg8
  | 0 => some .b
  | 1 => some .c
  | 2 => some .d
  | 3 => some .e
  | 4 => some .h
  | 5 => some .l
  | 7 => some .a
  | _ => none

/-- The field of `reg8` (R116). -/
def Reg8.field : Reg8 → Nat
  | .b => 0
  | .c => 1
  | .d => 2
  | .e => 3
  | .h => 4
  | .l => 5
  | .a => 7

/-- `rp[p]` (R117). -/
def Rp.ofField : Nat → Rp
  | 0 => .bc
  | 1 => .de
  | 2 => .hl
  | _ => .sp

/-- The field of `rp` (R117). -/
def Rp.field : Rp → Nat
  | .bc => 0
  | .de => 1
  | .hl => 2
  | .sp => 3

/-- `rp2[p]` (R118). -/
def Rp2.ofField : Nat → Rp2
  | 0 => .bc
  | 1 => .de
  | 2 => .hl
  | _ => .af

/-- The field of `rp2` (R118). -/
def Rp2.field : Rp2 → Nat
  | .bc => 0
  | .de => 1
  | .hl => 2
  | .af => 3

/-- `rp[p]` behind DD or FD (R117, R119 (a)). -/
def RpXY.ofField : Nat → RpXY
  | 0 => .bc
  | 1 => .de
  | 2 => .xy
  | _ => .sp

/-- The field of `rp` behind DD or FD (R117, R119 (a)). -/
def RpXY.field : RpXY → Nat
  | .bc => 0
  | .de => 1
  | .xy => 2
  | .sp => 3

/-- `cc[y]` (R120). -/
def Cond.ofField : Nat → Cond
  | 0 => .nz
  | 1 => .z
  | 2 => .nc
  | 3 => .c
  | 4 => .po
  | 5 => .pe
  | 6 => .p
  | _ => .m

/-- The field of `cc` (R120). -/
def Cond.field : Cond → Nat
  | .nz => 0
  | .z => 1
  | .nc => 2
  | .c => 3
  | .po => 4
  | .pe => 5
  | .p => 6
  | .m => 7

/-- `cc[y - 4]` of JR cc (R120). -/
def JrCond.ofField : Nat → JrCond
  | 4 => .nz
  | 5 => .z
  | 6 => .nc
  | _ => .c

/-- The field `y` of JR cc (R120). -/
def JrCond.field : JrCond → Nat
  | .nz => 4
  | .z => 5
  | .nc => 6
  | .c => 7

/-- `alu[y]` (R143). -/
def AluOp.ofField : Nat → AluOp
  | 0 => .add
  | 1 => .adc
  | 2 => .sub
  | 3 => .sbc
  | 4 => .and
  | 5 => .xor
  | 6 => .or
  | _ => .cp

/-- The field of `alu` (R143). -/
def AluOp.field : AluOp → Nat
  | .add => 0
  | .adc => 1
  | .sub => 2
  | .sbc => 3
  | .and => 4
  | .xor => 5
  | .or => 6
  | .cp => 7

/-- `rot[y]` (R144). -/
def Rot.ofField : Nat → Rot
  | 0 => .rlc
  | 1 => .rrc
  | 2 => .rl
  | 3 => .rr
  | 4 => .sla
  | 5 => .sra
  | 6 => .sll
  | _ => .srl

/-- The field of `rot` (R144). -/
def Rot.field : Rot → Nat
  | .rlc => 0
  | .rrc => 1
  | .rl => 2
  | .rr => 3
  | .sla => 4
  | .sra => 5
  | .sll => 6
  | .srl => 7

/-- The byte of a `NextByte` (R137). -/
def NextByte.byte : NextByte → Byte
  | .dd => 0xDD
  | .ed => 0xED
  | .fd => 0xFD

/-- The `NextByte` of a byte: the three bytes before which a DD or FD is discarded (R137). -/
def NextByte.ofByte (b : Byte) : Option NextByte :=
  if b == 0xDD then some .dd else if b == 0xED then some .ed else if b == 0xFD then some .fd else none

/-- A bit index, an RST field or an alias field, from a field of three bits (R124, R125, R136). -/
def fin8 (k : Nat) : Fin 8 := Fin.ofNat 8 k

/-! ## The instruction of a field: the rows that an `alu` or `rot` field selects -/

/-- `alu[y] r` (R130). -/
def Instr.aluR : AluOp → Reg8 → Instr
  | .add, r => .addR r
  | .adc, r => .adcR r
  | .sub, r => .subR r
  | .sbc, r => .sbcR r
  | .and, r => .andR r
  | .xor, r => .xorR r
  | .or, r => .orR r
  | .cp, r => .cpR r

/-- `alu[y] (HL)` (R130). -/
def Instr.aluMhl : AluOp → Instr
  | .add => .addMhl
  | .adc => .adcMhl
  | .sub => .subMhl
  | .sbc => .sbcMhl
  | .and => .andMhl
  | .xor => .xorMhl
  | .or => .orMhl
  | .cp => .cpMhl

/-- `alu[y] n` (R131). -/
def Instr.aluN : AluOp → Byte → Instr
  | .add, n => .addN n
  | .adc, n => .adcN n
  | .sub, n => .subN n
  | .sbc, n => .sbcN n
  | .and, n => .andN n
  | .xor, n => .xorN n
  | .or, n => .orN n
  | .cp, n => .cpN n

/-- `alu[y] (XY+d)` (R134). -/
def Instr.aluMxyd : Idx → AluOp → Byte → Instr
  | .ix, .add, d => .addMixd d
  | .ix, .adc, d => .adcMixd d
  | .ix, .sub, d => .subMixd d
  | .ix, .sbc, d => .sbcMixd d
  | .ix, .and, d => .andMixd d
  | .ix, .xor, d => .xorMixd d
  | .ix, .or, d => .orMixd d
  | .ix, .cp, d => .cpMixd d
  | .iy, .add, d => .addMiyd d
  | .iy, .adc, d => .adcMiyd d
  | .iy, .sub, d => .subMiyd d
  | .iy, .sbc, d => .sbcMiyd d
  | .iy, .and, d => .andMiyd d
  | .iy, .xor, d => .xorMiyd d
  | .iy, .or, d => .orMiyd d
  | .iy, .cp, d => .cpMiyd d

/-- `alu[y] XYH` and `alu[y] XYL` (R134). -/
def Instr.aluHalf : Idx → Half → AluOp → Instr
  | .ix, .high, .add => .addIXH
  | .ix, .high, .adc => .adcIXH
  | .ix, .high, .sub => .subIXH
  | .ix, .high, .sbc => .sbcIXH
  | .ix, .high, .and => .andIXH
  | .ix, .high, .xor => .xorIXH
  | .ix, .high, .or => .orIXH
  | .ix, .high, .cp => .cpIXH
  | .ix, .low, .add => .addIXL
  | .ix, .low, .adc => .adcIXL
  | .ix, .low, .sub => .subIXL
  | .ix, .low, .sbc => .sbcIXL
  | .ix, .low, .and => .andIXL
  | .ix, .low, .xor => .xorIXL
  | .ix, .low, .or => .orIXL
  | .ix, .low, .cp => .cpIXL
  | .iy, .high, .add => .addIYH
  | .iy, .high, .adc => .adcIYH
  | .iy, .high, .sub => .subIYH
  | .iy, .high, .sbc => .sbcIYH
  | .iy, .high, .and => .andIYH
  | .iy, .high, .xor => .xorIYH
  | .iy, .high, .or => .orIYH
  | .iy, .high, .cp => .cpIYH
  | .iy, .low, .add => .addIYL
  | .iy, .low, .adc => .adcIYL
  | .iy, .low, .sub => .subIYL
  | .iy, .low, .sbc => .sbcIYL
  | .iy, .low, .and => .andIYL
  | .iy, .low, .xor => .xorIYL
  | .iy, .low, .or => .orIYL
  | .iy, .low, .cp => .cpIYL

/-- `rot[y] r` (R132). -/
def Instr.rotR : Rot → Reg8 → Instr
  | .rlc, r => .rlcR r
  | .rrc, r => .rrcR r
  | .rl, r => .rlR r
  | .rr, r => .rrR r
  | .sla, r => .slaR r
  | .sra, r => .sraR r
  | .sll, r => .sllR r
  | .srl, r => .srlR r

/-- `rot[y] (HL)` (R132). -/
def Instr.rotMhl : Rot → Instr
  | .rlc => .rlcMhl
  | .rrc => .rrcMhl
  | .rl => .rlMhl
  | .rr => .rrMhl
  | .sla => .slaMhl
  | .sra => .sraMhl
  | .sll => .sllMhl
  | .srl => .srlMhl

/-- `rot[y] (XY+d)` (R135). -/
def Instr.rotMxyd : Idx → Rot → Byte → Instr
  | .ix, .rlc, d => .rlcMixd d
  | .ix, .rrc, d => .rrcMixd d
  | .ix, .rl, d => .rlMixd d
  | .ix, .rr, d => .rrMixd d
  | .ix, .sla, d => .slaMixd d
  | .ix, .sra, d => .sraMixd d
  | .ix, .sll, d => .sllMixd d
  | .ix, .srl, d => .srlMixd d
  | .iy, .rlc, d => .rlcMiyd d
  | .iy, .rrc, d => .rrcMiyd d
  | .iy, .rl, d => .rlMiyd d
  | .iy, .rr, d => .rrMiyd d
  | .iy, .sla, d => .slaMiyd d
  | .iy, .sra, d => .sraMiyd d
  | .iy, .sll, d => .sllMiyd d
  | .iy, .srl, d => .srlMiyd d

/-! ## The base space -/

/-- Base space, `x = 0` (R128); `n` is the first operand byte, `nn` the operand word. -/
def decodeBase0 (op n : Byte) (nn : Word) : Instr :=
  match opZ op with
  | 0 =>
    match opY op with
    | 0 => .nop
    | 1 => .exAfAf
    | 2 => .djnz n
    | 3 => .jr n
    | k => .jrCc (JrCond.ofField k) n
  | 1 => if opQ op = 0 then .ldRpNn (Rp.ofField (opP op)) nn else .addHLRp (Rp.ofField (opP op))
  | 2 =>
    match opY op with
    | 0 => .ldMbcA
    | 1 => .ldAMbc
    | 2 => .ldMdeA
    | 3 => .ldAMde
    | 4 => .ldMnnHL nn
    | 5 => .ldHLMnn nn
    | 6 => .ldMnnA nn
    | _ => .ldAMnn nn
  | 3 => if opQ op = 0 then .incRp (Rp.ofField (opP op)) else .decRp (Rp.ofField (opP op))
  | 4 =>
    match Reg8.ofField (opY op) with
    | some r => .incR r
    | none => .incMhl
  | 5 =>
    match Reg8.ofField (opY op) with
    | some r => .decR r
    | none => .decMhl
  | 6 =>
    match Reg8.ofField (opY op) with
    | some r => .ldRN r n
    | none => .ldMhlN n
  | _ =>
    match opY op with
    | 0 => .rlca
    | 1 => .rrca
    | 2 => .rla
    | 3 => .rra
    | 4 => .daa
    | 5 => .cpl
    | 6 => .scf
    | _ => .ccf

/-- Base space, `x = 1` (R129). -/
def decodeBase1 (op : Byte) : Instr :=
  match Reg8.ofField (opY op), Reg8.ofField (opZ op) with
  | some r, some r' => .ldRR r r'
  | some r, none => .ldRMhl r
  | none, some r => .ldMhlR r
  | none, none => .halt

/-- Base space, `x = 2` (R130). -/
def decodeBase2 (op : Byte) : Instr :=
  match Reg8.ofField (opZ op) with
  | some r => .aluR (AluOp.ofField (opY op)) r
  | none => .aluMhl (AluOp.ofField (opY op))

/-- Base space, `x = 3` (R131), none for the four bytes CB, DD, ED, FD that open another space. -/
def decodeBase3 (op n : Byte) (nn : Word) : Option Instr :=
  match opZ op with
  | 0 => some (.retCc (Cond.ofField (opY op)))
  | 1 =>
    match opY op with
    | 1 => some .ret
    | 3 => some .exx
    | 5 => some .jpHL
    | 7 => some .ldSpHL
    | _ => some (.popQq (Rp2.ofField (opP op)))
  | 2 => some (.jpCcNn (Cond.ofField (opY op)) nn)
  | 3 =>
    match opY op with
    | 0 => some (.jpNn nn)
    | 1 => none
    | 2 => some (.outNA n)
    | 3 => some (.inAN n)
    | 4 => some .exSpHL
    | 5 => some .exDeHL
    | 6 => some .di
    | _ => some .ei
  | 4 => some (.callCcNn (Cond.ofField (opY op)) nn)
  | 5 =>
    match opY op with
    | 1 => some (.callNn nn)
    | 3 => none
    | 5 => none
    | 7 => none
    | _ => some (.pushQq (Rp2.ofField (opP op)))
  | 6 => some (.aluN (AluOp.ofField (opY op)) n)
  | _ => some (.rst (fin8 (opY op)))

/-- The base space (R128 to R131). -/
def decodeBase (op n : Byte) (nn : Word) : Option Instr :=
  match opX op with
  | 0 => some (decodeBase0 op n nn)
  | 1 => some (decodeBase1 op)
  | 2 => some (decodeBase2 op)
  | _ => decodeBase3 op n nn

/-! ## The CB space -/

/-- The CB space, all 256 bytes (R132). -/
def decodeCB (op : Byte) : Instr :=
  match opX op, Reg8.ofField (opZ op) with
  | 0, some r => .rotR (Rot.ofField (opY op)) r
  | 0, none => .rotMhl (Rot.ofField (opY op))
  | 1, some r => .bitR (fin8 (opY op)) r
  | 1, none => .bitMhl (fin8 (opY op))
  | 2, some r => .resR (fin8 (opY op)) r
  | 2, none => .resMhl (fin8 (opY op))
  | _, some r => .setR (fin8 (opY op)) r
  | _, none => .setMhl (fin8 (opY op))

/-! ## The ED space -/

/-- ED space, `x = 1` (R133, R126; the second encodings of R136). -/
def decodeED1 (op : Byte) (nn : Word) : Option Instr :=
  match opZ op with
  | 0 =>
    match Reg8.ofField (opY op) with
    | some r => some (.inRC r)
    | none => some .inFC
  | 1 =>
    match Reg8.ofField (opY op) with
    | some r => some (.outCR r)
    | none => some .outC0
  | 2 => if opQ op = 0 then some (.sbcHLRp (Rp.ofField (opP op))) else some (.adcHLRp (Rp.ofField (opP op)))
  | 3 => if opQ op = 0 then some (.ldMnnRp (Rp.ofField (opP op)) nn) else some (.ldRpMnn (Rp.ofField (opP op)) nn)
  | 4 =>
    match opY op with
    | 0 => some .neg
    | k => some (.negAlias (fin8 k))
  | 5 =>
    match opY op with
    | 0 => some .retn
    | 1 => some .reti
    | k => some (.retnAlias (fin8 k))
  | 6 =>
    match opY op with
    | 0 => some .im0
    | 2 => some .im1
    | 3 => some .im2
    | 6 => some .im1Alias
    | 7 => some .im2Alias
    | k => some (.im0Alias (fin8 k))
  | _ =>
    match opY op with
    | 0 => some .ldIA
    | 1 => some .ldRA
    | 2 => some .ldAI
    | 3 => some .ldAR
    | 4 => some .rrd
    | 5 => some .rld
    | _ => none

/-- ED space, `x = 2`: the block instructions (R133). -/
def decodeED2 (op : Byte) : Option Instr :=
  match opY op, opZ op with
  | 4, 0 => some .ldi
  | 4, 1 => some .cpi
  | 4, 2 => some .ini
  | 4, 3 => some .outi
  | 5, 0 => some .ldd
  | 5, 1 => some .cpd
  | 5, 2 => some .ind
  | 5, 3 => some .outd
  | 6, 0 => some .ldir
  | 6, 1 => some .cpir
  | 6, 2 => some .inir
  | 6, 3 => some .otir
  | 7, 0 => some .lddr
  | 7, 1 => some .cpdr
  | 7, 2 => some .indr
  | 7, 3 => some .otdr
  | _, _ => none

/-- The ED space; none for the reserved bytes of R136. -/
def decodeED (op : Byte) (nn : Word) : Option Instr :=
  match opX op with
  | 1 => decodeED1 op nn
  | 2 => decodeED2 op
  | _ => none

/-! ## The DD and FD spaces

The two spaces hold the same rows, DD for IX and FD for IY (R111, R134). -/

/-- LD with an index half of IX (R134, R214): destination field `y`, source field `z`. -/
def decodeLdHalfIX (op : Byte) : Option Instr :=
  match opY op, opZ op with
  | 0, 4 => some .ldBIXH
  | 0, 5 => some .ldBIXL
  | 1, 4 => some .ldCIXH
  | 1, 5 => some .ldCIXL
  | 2, 4 => some .ldDIXH
  | 2, 5 => some .ldDIXL
  | 3, 4 => some .ldEIXH
  | 3, 5 => some .ldEIXL
  | 4, 0 => some .ldIXHB
  | 4, 1 => some .ldIXHC
  | 4, 2 => some .ldIXHD
  | 4, 3 => some .ldIXHE
  | 4, 4 => some .ldIXHIXH
  | 4, 5 => some .ldIXHIXL
  | 4, 7 => some .ldIXHA
  | 5, 0 => some .ldIXLB
  | 5, 1 => some .ldIXLC
  | 5, 2 => some .ldIXLD
  | 5, 3 => some .ldIXLE
  | 5, 4 => some .ldIXLIXH
  | 5, 5 => some .ldIXLIXL
  | 5, 7 => some .ldIXLA
  | 7, 4 => some .ldAIXH
  | 7, 5 => some .ldAIXL
  | _, _ => none

/-- DD space, `x = 0` (R134); `n1`, `n2` are the operand bytes, `nn` the operand word. -/
def decodeDD0 (op n1 n2 : Byte) (nn : Word) : Option Instr :=
  match opZ op, opY op with
  | 1, 4 => some (.ldIXNn nn)
  | 1, _ => if opQ op = 1 then some (.addIXRp (RpXY.ofField (opP op))) else none
  | 2, 4 => some (.ldMnnIX nn)
  | 2, 5 => some (.ldIXMnn nn)
  | 3, 4 => some .incIX
  | 3, 5 => some .decIX
  | 4, 4 => some .incIXH
  | 4, 5 => some .incIXL
  | 4, 6 => some (.incMixd n1)
  | 5, 4 => some .decIXH
  | 5, 5 => some .decIXL
  | 5, 6 => some (.decMixd n1)
  | 6, 4 => some (.ldIXHN n1)
  | 6, 5 => some (.ldIXLN n1)
  | 6, 6 => some (.ldMixdN n1 n2)
  | _, _ => none

/-- DD space, `x = 1` (R134). -/
def decodeDD1 (op n1 : Byte) : Option Instr :=
  match Reg8.ofField (opY op), Reg8.ofField (opZ op) with
  | some r, none => some (.ldRMixd r n1)
  | none, some r => some (.ldMixdR n1 r)
  | _, _ => decodeLdHalfIX op

/-- DD space, `x = 2` (R134). -/
def decodeDD2 (op n1 : Byte) : Option Instr :=
  match opZ op with
  | 4 => some (.aluHalf .ix .high (AluOp.ofField (opY op)))
  | 5 => some (.aluHalf .ix .low (AluOp.ofField (opY op)))
  | 6 => some (.aluMxyd .ix (AluOp.ofField (opY op)) n1)
  | _ => none

/-- DD space, `x = 3` (R134). -/
def decodeDD3 (op : Byte) : Option Instr :=
  match opZ op, opY op with
  | 1, 4 => some .popIX
  | 3, 4 => some .exSpIX
  | 5, 4 => some .pushIX
  | 1, 5 => some .jpIX
  | 1, 7 => some .ldSpIX
  | _, _ => none

/-- The opcodes of the DD space that are always implemented (R134), none for the other bytes. -/
def decodeDDRow (op n1 n2 : Byte) (nn : Word) : Option Instr :=
  match opX op with
  | 0 => decodeDD0 op n1 n2 nn
  | 1 => decodeDD1 op n1
  | 2 => decodeDD2 op n1
  | _ => decodeDD3 op

/-- The DD space (R134, R137): an implemented opcode, else a discarded DD before DD, ED or FD, else the base
instruction of the same byte with HL unsubstituted. -/
def decodeDD (op n1 n2 : Byte) (nn : Word) : Option Instr :=
  match decodeDDRow op n1 n2 nn with
  | some i => some i
  | none =>
    match NextByte.ofByte op with
    | some w => some (.ddDiscarded w)
    | none => (decodeBase op n1 nn).map Instr.ddBase

/-- The DD CB space, all 256 final bytes (R135, R138). -/
def decodeDDCB (d op : Byte) : Instr :=
  match opX op, Reg8.ofField (opZ op) with
  | 0, none => .rotMxyd .ix (Rot.ofField (opY op)) d
  | 0, some r => .rotMixdCopy (Rot.ofField (opY op)) d r
  | 1, none => .bitMixd (fin8 (opY op)) d
  | 1, some r => .bitMixdAlias (fin8 (opY op)) d r
  | 2, none => .resMixd (fin8 (opY op)) d
  | 2, some r => .resMixdCopy (fin8 (opY op)) d r
  | _, none => .setMixd (fin8 (opY op)) d
  | _, some r => .setMixdCopy (fin8 (opY op)) d r

/-- LD with an index half of IY (R134, R214): destination field `y`, source field `z`. -/
def decodeLdHalfIY (op : Byte) : Option Instr :=
  match opY op, opZ op with
  | 0, 4 => some .ldBIYH
  | 0, 5 => some .ldBIYL
  | 1, 4 => some .ldCIYH
  | 1, 5 => some .ldCIYL
  | 2, 4 => some .ldDIYH
  | 2, 5 => some .ldDIYL
  | 3, 4 => some .ldEIYH
  | 3, 5 => some .ldEIYL
  | 4, 0 => some .ldIYHB
  | 4, 1 => some .ldIYHC
  | 4, 2 => some .ldIYHD
  | 4, 3 => some .ldIYHE
  | 4, 4 => some .ldIYHIYH
  | 4, 5 => some .ldIYHIYL
  | 4, 7 => some .ldIYHA
  | 5, 0 => some .ldIYLB
  | 5, 1 => some .ldIYLC
  | 5, 2 => some .ldIYLD
  | 5, 3 => some .ldIYLE
  | 5, 4 => some .ldIYLIYH
  | 5, 5 => some .ldIYLIYL
  | 5, 7 => some .ldIYLA
  | 7, 4 => some .ldAIYH
  | 7, 5 => some .ldAIYL
  | _, _ => none

/-- FD space, `x = 0` (R134); `n1`, `n2` are the operand bytes, `nn` the operand word. -/
def decodeFD0 (op n1 n2 : Byte) (nn : Word) : Option Instr :=
  match opZ op, opY op with
  | 1, 4 => some (.ldIYNn nn)
  | 1, _ => if opQ op = 1 then some (.addIYRp (RpXY.ofField (opP op))) else none
  | 2, 4 => some (.ldMnnIY nn)
  | 2, 5 => some (.ldIYMnn nn)
  | 3, 4 => some .incIY
  | 3, 5 => some .decIY
  | 4, 4 => some .incIYH
  | 4, 5 => some .incIYL
  | 4, 6 => some (.incMiyd n1)
  | 5, 4 => some .decIYH
  | 5, 5 => some .decIYL
  | 5, 6 => some (.decMiyd n1)
  | 6, 4 => some (.ldIYHN n1)
  | 6, 5 => some (.ldIYLN n1)
  | 6, 6 => some (.ldMiydN n1 n2)
  | _, _ => none

/-- FD space, `x = 1` (R134). -/
def decodeFD1 (op n1 : Byte) : Option Instr :=
  match Reg8.ofField (opY op), Reg8.ofField (opZ op) with
  | some r, none => some (.ldRMiyd r n1)
  | none, some r => some (.ldMiydR n1 r)
  | _, _ => decodeLdHalfIY op

/-- FD space, `x = 2` (R134). -/
def decodeFD2 (op n1 : Byte) : Option Instr :=
  match opZ op with
  | 4 => some (.aluHalf .iy .high (AluOp.ofField (opY op)))
  | 5 => some (.aluHalf .iy .low (AluOp.ofField (opY op)))
  | 6 => some (.aluMxyd .iy (AluOp.ofField (opY op)) n1)
  | _ => none

/-- FD space, `x = 3` (R134). -/
def decodeFD3 (op : Byte) : Option Instr :=
  match opZ op, opY op with
  | 1, 4 => some .popIY
  | 3, 4 => some .exSpIY
  | 5, 4 => some .pushIY
  | 1, 5 => some .jpIY
  | 1, 7 => some .ldSpIY
  | _, _ => none

/-- The opcodes of the FD space that are always implemented (R134), none for the other bytes. -/
def decodeFDRow (op n1 n2 : Byte) (nn : Word) : Option Instr :=
  match opX op with
  | 0 => decodeFD0 op n1 n2 nn
  | 1 => decodeFD1 op n1
  | 2 => decodeFD2 op n1
  | _ => decodeFD3 op

/-- The FD space (R134, R137): an implemented opcode, else a discarded FD before DD, ED or FD, else the base
instruction of the same byte with HL unsubstituted. -/
def decodeFD (op n1 n2 : Byte) (nn : Word) : Option Instr :=
  match decodeFDRow op n1 n2 nn with
  | some i => some i
  | none =>
    match NextByte.ofByte op with
    | some w => some (.fdDiscarded w)
    | none => (decodeBase op n1 nn).map Instr.fdBase

/-- The FD CB space, all 256 final bytes (R135, R138). -/
def decodeFDCB (d op : Byte) : Instr :=
  match opX op, Reg8.ofField (opZ op) with
  | 0, none => .rotMxyd .iy (Rot.ofField (opY op)) d
  | 0, some r => .rotMiydCopy (Rot.ofField (opY op)) d r
  | 1, none => .bitMiyd (fin8 (opY op)) d
  | 1, some r => .bitMiydAlias (fin8 (opY op)) d r
  | 2, none => .resMiyd (fin8 (opY op)) d
  | 2, some r => .resMiydCopy (fin8 (opY op)) d r
  | _, none => .setMiyd (fin8 (opY op)) d
  | _, some r => .setMiydCopy (fin8 (opY op)) d r

/-! ## Lengths and the whole decoder -/

/-- How many opcode bytes are fetched before the row is looked up: the bytes of R127 up to and with the byte
that selects the row (for DD CB and FD CB the displacement among them). -/
def opcodeBytes (b0 b1 : Byte) : Nat :=
  if b0 == 0xCB || b0 == 0xED then 2
  else if b0 == 0xDD || b0 == 0xFD then (if b1 == 0xCB then 4 else 2)
  else 1

/-- The operand bytes of a base opcode (R110, R128 to R131). -/
def baseOperands (op : Byte) : Nat :=
  match opX op, opZ op with
  | 0, 0 => if opY op ≥ 2 then 1 else 0
  | 0, 1 => if opQ op = 0 then 2 else 0
  | 0, 2 => if opY op ≥ 4 then 2 else 0
  | 0, 6 => 1
  | 3, 2 => 2
  | 3, 3 => if opY op = 0 then 2 else if opY op = 2 || opY op = 3 then 1 else 0
  | 3, 4 => 2
  | 3, 5 => if opY op = 1 then 2 else 0
  | 3, 6 => 1
  | _, _ => 0

/-- The operand bytes of an implemented DD or FD opcode (R110, R134), none for the other bytes. -/
def xyOperands (op : Byte) : Option Nat :=
  (decodeDDRow op 0 0 0).map fun i =>
    match i with
    | .ldIXNn _ | .ldMnnIX _ | .ldIXMnn _ | .ldMixdN _ _ => 2
    | .incMixd _ | .decMixd _ | .ldIXHN _ | .ldIXLN _ | .ldRMixd _ _ | .ldMixdR _ _ => 1
    | .addMixd _ | .adcMixd _ | .subMixd _ | .sbcMixd _ | .andMixd _ | .xorMixd _ | .orMixd _ | .cpMixd _ => 1
    | _ => 0

/-- The bytes the decoder reads to know an instruction and its operands: its whole length (R110, R127), or the
two bytes that show that a DD or FD is discarded (R137). -/
def instrBytes (b0 b1 : Byte) : Nat :=
  if b0 == 0xCB then 2
  else if b0 == 0xED then (if opX b1 = 1 && opZ b1 = 3 then 4 else 2)
  else if b0 == 0xDD || b0 == 0xFD then
    if b1 == 0xCB then 4
    else
      match xyOperands b1 with
      | some k => 2 + k
      | none => 2 + baseOperands b1
  else 1 + baseOperands b0

/-- The row of the opcode table that four bytes select, with its operands; none where no row matches (R127, R142). -/
def decodeRow (b0 b1 b2 b3 : Byte) : Option Instr :=
  if b0 == 0xCB then some (decodeCB b1)
  else if b0 == 0xED then decodeED b1 (Word.ofBytes b3 b2)
  else if b0 == 0xDD then
    if b1 == 0xCB then some (decodeDDCB b2 b3) else decodeDD b1 b2 b3 (Word.ofBytes b3 b2)
  else if b0 == 0xFD then
    if b1 == 0xCB then some (decodeFDCB b2 b3) else decodeFD b1 b2 b3 (Word.ofBytes b3 b2)
  else decodeBase b0 b1 (Word.ofBytes b2 b1)

/-- Why the decoder gives no instruction. -/
inductive DecodeError where
  /-- The bytes end before the instruction does. -/
  | truncated
  /-- An ED opcode outside R133 and the second encodings of R136. -/
  | undefinedED (op : Byte)
  deriving DecidableEq, Repr

/-- The decoder, on the bytes from an instruction's first byte on (R127). Whether a row is enabled is the
step's question (R136 to R138). -/
def decode (bs : List Byte) : Except DecodeError Instr :=
  let b0 := bs.getD 0 0
  let b1 := bs.getD 1 0
  if bs.length < instrBytes b0 b1 then .error .truncated
  else
    match decodeRow b0 b1 (bs.getD 2 0) (bs.getD 3 0) with
    | some i => .ok i
    | none => .error (.undefinedED b1)

/-- Byte `k` of a table word of `nbits` bits, 0 above it. -/
def tableByte (nbits w k : Nat) : Byte := if 8 * k < nbits then BitVec.ofNat 8 (w / 2 ^ (8 * k)) else 0

/-- The first four bytes of a table word, the first one in its low bits (the longest instruction has four, R110). -/
def tableBytes (nbits w : Nat) : List Byte :=
  [tableByte nbits w 0, tableByte nbits w 1, tableByte nbits w 2, tableByte nbits w 3]

/-- What the decoder reads from an instruction given as a number, its first byte in the low bits. -/
def decodeTableWord (nbits w : Nat) : Option Instr :=
  match decode (tableBytes nbits w) with
  | .ok i => some i
  | .error _ => none

/-- A DD or FD that is discarded: the only instruction that consumes fewer bytes than the decoder reads (R137). -/
def Instr.isDiscarded : Instr → Bool
  | .ddDiscarded _ => true
  | .fdDiscarded _ => true
  | _ => false

/-! ## The encoder -/

/-- The bytes of a base instruction (R128 to R131), none for the other instructions. -/
def encodeBase : Instr → Option (List Byte)
  | .nop => some [0x00]
  | .exAfAf => some [0x08]
  | .ldMbcA => some [0x02]
  | .ldAMbc => some [0x0A]
  | .ldMdeA => some [0x12]
  | .ldAMde => some [0x1A]
  | .incMhl => some [0x34]
  | .decMhl => some [0x35]
  | .rlca => some [0x07]
  | .rrca => some [0x0F]
  | .rla => some [0x17]
  | .rra => some [0x1F]
  | .daa => some [0x27]
  | .cpl => some [0x2F]
  | .scf => some [0x37]
  | .ccf => some [0x3F]
  | .halt => some [0x76]
  | .addMhl => some [0x86]
  | .adcMhl => some [0x8E]
  | .subMhl => some [0x96]
  | .sbcMhl => some [0x9E]
  | .andMhl => some [0xA6]
  | .xorMhl => some [0xAE]
  | .orMhl => some [0xB6]
  | .cpMhl => some [0xBE]
  | .ret => some [0xC9]
  | .exx => some [0xD9]
  | .jpHL => some [0xE9]
  | .ldSpHL => some [0xF9]
  | .exSpHL => some [0xE3]
  | .exDeHL => some [0xEB]
  | .di => some [0xF3]
  | .ei => some [0xFB]
  | .djnz e => some [0x10, e]
  | .jr e => some [0x18, e]
  | .jrCc jc e => some [opXYZ 0 jc.field 0, e]
  | .ldRpNn p nn => some [opXYZ 0 (p.field * 2) 1, Word.lo nn, Word.hi nn]
  | .addHLRp p => some [opXYZ 0 (p.field * 2 + 1) 1]
  | .ldMnnHL nn => some [0x22, Word.lo nn, Word.hi nn]
  | .ldHLMnn nn => some [0x2A, Word.lo nn, Word.hi nn]
  | .ldMnnA nn => some [0x32, Word.lo nn, Word.hi nn]
  | .ldAMnn nn => some [0x3A, Word.lo nn, Word.hi nn]
  | .incRp p => some [opXYZ 0 (p.field * 2) 3]
  | .decRp p => some [opXYZ 0 (p.field * 2 + 1) 3]
  | .incR r => some [opXYZ 0 r.field 4]
  | .decR r => some [opXYZ 0 r.field 5]
  | .ldRN r n => some [opXYZ 0 r.field 6, n]
  | .ldMhlN n => some [0x36, n]
  | .ldRR r r' => some [opXYZ 1 r.field r'.field]
  | .ldRMhl r => some [opXYZ 1 r.field 6]
  | .ldMhlR r => some [opXYZ 1 6 r.field]
  | .addR r => some [opXYZ 2 0 r.field]
  | .addN n => some [0xC6, n]
  | .adcR r => some [opXYZ 2 1 r.field]
  | .adcN n => some [0xCE, n]
  | .subR r => some [opXYZ 2 2 r.field]
  | .subN n => some [0xD6, n]
  | .sbcR r => some [opXYZ 2 3 r.field]
  | .sbcN n => some [0xDE, n]
  | .andR r => some [opXYZ 2 4 r.field]
  | .andN n => some [0xE6, n]
  | .xorR r => some [opXYZ 2 5 r.field]
  | .xorN n => some [0xEE, n]
  | .orR r => some [opXYZ 2 6 r.field]
  | .orN n => some [0xF6, n]
  | .cpR r => some [opXYZ 2 7 r.field]
  | .cpN n => some [0xFE, n]
  | .retCc cc => some [opXYZ 3 cc.field 0]
  | .popQq q => some [opXYZ 3 (q.field * 2) 1]
  | .pushQq q => some [opXYZ 3 (q.field * 2) 5]
  | .jpNn nn => some [0xC3, Word.lo nn, Word.hi nn]
  | .outNA n => some [0xD3, n]
  | .inAN n => some [0xDB, n]
  | .callNn nn => some [0xCD, Word.lo nn, Word.hi nn]
  | .jpCcNn cc nn => some [opXYZ 3 cc.field 2, Word.lo nn, Word.hi nn]
  | .callCcNn cc nn => some [opXYZ 3 cc.field 4, Word.lo nn, Word.hi nn]
  | .rst k => some [opXYZ 3 k.val 7]
  | _ => none

/-- The bytes of an instruction of the CB space (R132), none for the others. -/
def encodeCB : Instr → Option (List Byte)
  | .rlcMhl => some [0xCB, 0x06]
  | .rrcMhl => some [0xCB, 0x0E]
  | .rlMhl => some [0xCB, 0x16]
  | .rrMhl => some [0xCB, 0x1E]
  | .slaMhl => some [0xCB, 0x26]
  | .sraMhl => some [0xCB, 0x2E]
  | .sllMhl => some [0xCB, 0x36]
  | .srlMhl => some [0xCB, 0x3E]
  | .rlcR r => some [0xCB, opXYZ 0 0 r.field]
  | .rrcR r => some [0xCB, opXYZ 0 1 r.field]
  | .rlR r => some [0xCB, opXYZ 0 2 r.field]
  | .rrR r => some [0xCB, opXYZ 0 3 r.field]
  | .slaR r => some [0xCB, opXYZ 0 4 r.field]
  | .sraR r => some [0xCB, opXYZ 0 5 r.field]
  | .sllR r => some [0xCB, opXYZ 0 6 r.field]
  | .srlR r => some [0xCB, opXYZ 0 7 r.field]
  | .bitR b r => some [0xCB, opXYZ 1 b.val r.field]
  | .bitMhl b => some [0xCB, opXYZ 1 b.val 6]
  | .resR b r => some [0xCB, opXYZ 2 b.val r.field]
  | .resMhl b => some [0xCB, opXYZ 2 b.val 6]
  | .setR b r => some [0xCB, opXYZ 3 b.val r.field]
  | .setMhl b => some [0xCB, opXYZ 3 b.val 6]
  | _ => none

/-- The bytes of an instruction of the ED space (R133, R136), none for the others. -/
def encodeED : Instr → Option (List Byte)
  | .inFC => some [0xED, 0x70]
  | .outC0 => some [0xED, 0x71]
  | .neg => some [0xED, 0x44]
  | .retn => some [0xED, 0x45]
  | .reti => some [0xED, 0x4D]
  | .im0 => some [0xED, 0x46]
  | .im1 => some [0xED, 0x56]
  | .im2 => some [0xED, 0x5E]
  | .im1Alias => some [0xED, 0x76]
  | .im2Alias => some [0xED, 0x7E]
  | .ldIA => some [0xED, 0x47]
  | .ldRA => some [0xED, 0x4F]
  | .ldAI => some [0xED, 0x57]
  | .ldAR => some [0xED, 0x5F]
  | .rrd => some [0xED, 0x67]
  | .rld => some [0xED, 0x6F]
  | .ldi => some [0xED, 0xA0]
  | .cpi => some [0xED, 0xA1]
  | .ini => some [0xED, 0xA2]
  | .outi => some [0xED, 0xA3]
  | .ldd => some [0xED, 0xA8]
  | .cpd => some [0xED, 0xA9]
  | .ind => some [0xED, 0xAA]
  | .outd => some [0xED, 0xAB]
  | .ldir => some [0xED, 0xB0]
  | .cpir => some [0xED, 0xB1]
  | .inir => some [0xED, 0xB2]
  | .otir => some [0xED, 0xB3]
  | .lddr => some [0xED, 0xB8]
  | .cpdr => some [0xED, 0xB9]
  | .indr => some [0xED, 0xBA]
  | .otdr => some [0xED, 0xBB]
  | .inRC r => some [0xED, opXYZ 1 r.field 0]
  | .outCR r => some [0xED, opXYZ 1 r.field 1]
  | .sbcHLRp p => some [0xED, opXYZ 1 (p.field * 2) 2]
  | .adcHLRp p => some [0xED, opXYZ 1 (p.field * 2 + 1) 2]
  | .ldMnnRp p nn => some [0xED, opXYZ 1 (p.field * 2) 3, Word.lo nn, Word.hi nn]
  | .ldRpMnn p nn => some [0xED, opXYZ 1 (p.field * 2 + 1) 3, Word.lo nn, Word.hi nn]
  | .negAlias y => some [0xED, opXYZ 1 y.val 4]
  | .retnAlias y => some [0xED, opXYZ 1 y.val 5]
  | .im0Alias y => some [0xED, opXYZ 1 y.val 6]
  | _ => none

/-- The bytes of an instruction of the DD and DD CB spaces (R134, R135, R138), none for the others. -/
def encodeDD : Instr → Option (List Byte)
  | .incIX => some [0xDD, 0x23]
  | .decIX => some [0xDD, 0x2B]
  | .incIXH => some [0xDD, 0x24]
  | .decIXH => some [0xDD, 0x25]
  | .incIXL => some [0xDD, 0x2C]
  | .decIXL => some [0xDD, 0x2D]
  | .popIX => some [0xDD, 0xE1]
  | .exSpIX => some [0xDD, 0xE3]
  | .pushIX => some [0xDD, 0xE5]
  | .jpIX => some [0xDD, 0xE9]
  | .ldSpIX => some [0xDD, 0xF9]
  | .ldBIXH => some [0xDD, 0x44]
  | .ldBIXL => some [0xDD, 0x45]
  | .ldCIXH => some [0xDD, 0x4C]
  | .ldCIXL => some [0xDD, 0x4D]
  | .ldDIXH => some [0xDD, 0x54]
  | .ldDIXL => some [0xDD, 0x55]
  | .ldEIXH => some [0xDD, 0x5C]
  | .ldEIXL => some [0xDD, 0x5D]
  | .ldIXHB => some [0xDD, 0x60]
  | .ldIXHC => some [0xDD, 0x61]
  | .ldIXHD => some [0xDD, 0x62]
  | .ldIXHE => some [0xDD, 0x63]
  | .ldIXHIXH => some [0xDD, 0x64]
  | .ldIXHIXL => some [0xDD, 0x65]
  | .ldIXHA => some [0xDD, 0x67]
  | .ldIXLB => some [0xDD, 0x68]
  | .ldIXLC => some [0xDD, 0x69]
  | .ldIXLD => some [0xDD, 0x6A]
  | .ldIXLE => some [0xDD, 0x6B]
  | .ldIXLIXH => some [0xDD, 0x6C]
  | .ldIXLIXL => some [0xDD, 0x6D]
  | .ldIXLA => some [0xDD, 0x6F]
  | .ldAIXH => some [0xDD, 0x7C]
  | .ldAIXL => some [0xDD, 0x7D]
  | .addIXH => some [0xDD, 0x84]
  | .addIXL => some [0xDD, 0x85]
  | .adcIXH => some [0xDD, 0x8C]
  | .adcIXL => some [0xDD, 0x8D]
  | .subIXH => some [0xDD, 0x94]
  | .subIXL => some [0xDD, 0x95]
  | .sbcIXH => some [0xDD, 0x9C]
  | .sbcIXL => some [0xDD, 0x9D]
  | .andIXH => some [0xDD, 0xA4]
  | .andIXL => some [0xDD, 0xA5]
  | .xorIXH => some [0xDD, 0xAC]
  | .xorIXL => some [0xDD, 0xAD]
  | .orIXH => some [0xDD, 0xB4]
  | .orIXL => some [0xDD, 0xB5]
  | .cpIXH => some [0xDD, 0xBC]
  | .cpIXL => some [0xDD, 0xBD]
  | .addIXRp p => some [0xDD, opXYZ 0 (p.field * 2 + 1) 1]
  | .ldIXNn nn => some [0xDD, 0x21, Word.lo nn, Word.hi nn]
  | .ldMnnIX nn => some [0xDD, 0x22, Word.lo nn, Word.hi nn]
  | .ldIXMnn nn => some [0xDD, 0x2A, Word.lo nn, Word.hi nn]
  | .ldIXHN n => some [0xDD, 0x26, n]
  | .ldIXLN n => some [0xDD, 0x2E, n]
  | .incMixd d => some [0xDD, 0x34, d]
  | .decMixd d => some [0xDD, 0x35, d]
  | .ldMixdN d n => some [0xDD, 0x36, d, n]
  | .ldRMixd r d => some [0xDD, opXYZ 1 r.field 6, d]
  | .ldMixdR d r => some [0xDD, opXYZ 1 6 r.field, d]
  | .addMixd d => some [0xDD, 0x86, d]
  | .adcMixd d => some [0xDD, 0x8E, d]
  | .subMixd d => some [0xDD, 0x96, d]
  | .sbcMixd d => some [0xDD, 0x9E, d]
  | .andMixd d => some [0xDD, 0xA6, d]
  | .xorMixd d => some [0xDD, 0xAE, d]
  | .orMixd d => some [0xDD, 0xB6, d]
  | .cpMixd d => some [0xDD, 0xBE, d]
  | .rlcMixd d => some [0xDD, 0xCB, d, 0x06]
  | .rrcMixd d => some [0xDD, 0xCB, d, 0x0E]
  | .rlMixd d => some [0xDD, 0xCB, d, 0x16]
  | .rrMixd d => some [0xDD, 0xCB, d, 0x1E]
  | .slaMixd d => some [0xDD, 0xCB, d, 0x26]
  | .sraMixd d => some [0xDD, 0xCB, d, 0x2E]
  | .sllMixd d => some [0xDD, 0xCB, d, 0x36]
  | .srlMixd d => some [0xDD, 0xCB, d, 0x3E]
  | .bitMixd b d => some [0xDD, 0xCB, d, opXYZ 1 b.val 6]
  | .resMixd b d => some [0xDD, 0xCB, d, opXYZ 2 b.val 6]
  | .setMixd b d => some [0xDD, 0xCB, d, opXYZ 3 b.val 6]
  | .rotMixdCopy k d r => some [0xDD, 0xCB, d, opXYZ 0 k.field r.field]
  | .bitMixdAlias b d r => some [0xDD, 0xCB, d, opXYZ 1 b.val r.field]
  | .resMixdCopy b d r => some [0xDD, 0xCB, d, opXYZ 2 b.val r.field]
  | .setMixdCopy b d r => some [0xDD, 0xCB, d, opXYZ 3 b.val r.field]
  | _ => none

/-- The bytes of an instruction of the FD and FD CB spaces (R134, R135, R138), none for the others. -/
def encodeFD : Instr → Option (List Byte)
  | .incIY => some [0xFD, 0x23]
  | .decIY => some [0xFD, 0x2B]
  | .incIYH => some [0xFD, 0x24]
  | .decIYH => some [0xFD, 0x25]
  | .incIYL => some [0xFD, 0x2C]
  | .decIYL => some [0xFD, 0x2D]
  | .popIY => some [0xFD, 0xE1]
  | .exSpIY => some [0xFD, 0xE3]
  | .pushIY => some [0xFD, 0xE5]
  | .jpIY => some [0xFD, 0xE9]
  | .ldSpIY => some [0xFD, 0xF9]
  | .ldBIYH => some [0xFD, 0x44]
  | .ldBIYL => some [0xFD, 0x45]
  | .ldCIYH => some [0xFD, 0x4C]
  | .ldCIYL => some [0xFD, 0x4D]
  | .ldDIYH => some [0xFD, 0x54]
  | .ldDIYL => some [0xFD, 0x55]
  | .ldEIYH => some [0xFD, 0x5C]
  | .ldEIYL => some [0xFD, 0x5D]
  | .ldIYHB => some [0xFD, 0x60]
  | .ldIYHC => some [0xFD, 0x61]
  | .ldIYHD => some [0xFD, 0x62]
  | .ldIYHE => some [0xFD, 0x63]
  | .ldIYHIYH => some [0xFD, 0x64]
  | .ldIYHIYL => some [0xFD, 0x65]
  | .ldIYHA => some [0xFD, 0x67]
  | .ldIYLB => some [0xFD, 0x68]
  | .ldIYLC => some [0xFD, 0x69]
  | .ldIYLD => some [0xFD, 0x6A]
  | .ldIYLE => some [0xFD, 0x6B]
  | .ldIYLIYH => some [0xFD, 0x6C]
  | .ldIYLIYL => some [0xFD, 0x6D]
  | .ldIYLA => some [0xFD, 0x6F]
  | .ldAIYH => some [0xFD, 0x7C]
  | .ldAIYL => some [0xFD, 0x7D]
  | .addIYH => some [0xFD, 0x84]
  | .addIYL => some [0xFD, 0x85]
  | .adcIYH => some [0xFD, 0x8C]
  | .adcIYL => some [0xFD, 0x8D]
  | .subIYH => some [0xFD, 0x94]
  | .subIYL => some [0xFD, 0x95]
  | .sbcIYH => some [0xFD, 0x9C]
  | .sbcIYL => some [0xFD, 0x9D]
  | .andIYH => some [0xFD, 0xA4]
  | .andIYL => some [0xFD, 0xA5]
  | .xorIYH => some [0xFD, 0xAC]
  | .xorIYL => some [0xFD, 0xAD]
  | .orIYH => some [0xFD, 0xB4]
  | .orIYL => some [0xFD, 0xB5]
  | .cpIYH => some [0xFD, 0xBC]
  | .cpIYL => some [0xFD, 0xBD]
  | .addIYRp p => some [0xFD, opXYZ 0 (p.field * 2 + 1) 1]
  | .ldIYNn nn => some [0xFD, 0x21, Word.lo nn, Word.hi nn]
  | .ldMnnIY nn => some [0xFD, 0x22, Word.lo nn, Word.hi nn]
  | .ldIYMnn nn => some [0xFD, 0x2A, Word.lo nn, Word.hi nn]
  | .ldIYHN n => some [0xFD, 0x26, n]
  | .ldIYLN n => some [0xFD, 0x2E, n]
  | .incMiyd d => some [0xFD, 0x34, d]
  | .decMiyd d => some [0xFD, 0x35, d]
  | .ldMiydN d n => some [0xFD, 0x36, d, n]
  | .ldRMiyd r d => some [0xFD, opXYZ 1 r.field 6, d]
  | .ldMiydR d r => some [0xFD, opXYZ 1 6 r.field, d]
  | .addMiyd d => some [0xFD, 0x86, d]
  | .adcMiyd d => some [0xFD, 0x8E, d]
  | .subMiyd d => some [0xFD, 0x96, d]
  | .sbcMiyd d => some [0xFD, 0x9E, d]
  | .andMiyd d => some [0xFD, 0xA6, d]
  | .xorMiyd d => some [0xFD, 0xAE, d]
  | .orMiyd d => some [0xFD, 0xB6, d]
  | .cpMiyd d => some [0xFD, 0xBE, d]
  | .rlcMiyd d => some [0xFD, 0xCB, d, 0x06]
  | .rrcMiyd d => some [0xFD, 0xCB, d, 0x0E]
  | .rlMiyd d => some [0xFD, 0xCB, d, 0x16]
  | .rrMiyd d => some [0xFD, 0xCB, d, 0x1E]
  | .slaMiyd d => some [0xFD, 0xCB, d, 0x26]
  | .sraMiyd d => some [0xFD, 0xCB, d, 0x2E]
  | .sllMiyd d => some [0xFD, 0xCB, d, 0x36]
  | .srlMiyd d => some [0xFD, 0xCB, d, 0x3E]
  | .bitMiyd b d => some [0xFD, 0xCB, d, opXYZ 1 b.val 6]
  | .resMiyd b d => some [0xFD, 0xCB, d, opXYZ 2 b.val 6]
  | .setMiyd b d => some [0xFD, 0xCB, d, opXYZ 3 b.val 6]
  | .rotMiydCopy k d r => some [0xFD, 0xCB, d, opXYZ 0 k.field r.field]
  | .bitMiydAlias b d r => some [0xFD, 0xCB, d, opXYZ 1 b.val r.field]
  | .resMiydCopy b d r => some [0xFD, 0xCB, d, opXYZ 2 b.val r.field]
  | .setMiydCopy b d r => some [0xFD, 0xCB, d, opXYZ 3 b.val r.field]
  | _ => none

/-- The bytes of an instruction (R128 to R138); for a discarded DD or FD, that byte and the byte that follows it. -/
def encode : Instr → List Byte
  | .ddBase i => 0xDD :: (encodeBase i).getD []
  | .fdBase i => 0xFD :: (encodeBase i).getD []
  | .ddDiscarded w => [0xDD, w.byte]
  | .fdDiscarded w => [0xFD, w.byte]
  | i => ((((encodeBase i).or (encodeCB i)).or (encodeED i)).or (encodeDD i)).or (encodeFD i) |>.getD []

/-- How many bytes a step consumes for an instruction: its length (R110), one for a discarded DD or FD (R137). -/
def Instr.length (i : Instr) : Nat := if i.isDiscarded then 1 else (encode i).length

end Sys2Proof
end

