-- ==== Sys2Proof/Machine/Timing.lean ====
section
/-! DEFINITION. The timing tables: classification and the builder (spec/70_reset_and_hazards.md R555 to R566),
the default specification (R560) and the tables it builds, written out.
That the builder makes these tables from that specification is proved in Laws/Timing.lean. -/

namespace Sys2Proof

/-! ## Builder -/

/-- The primary table and index byte that a concrete byte sequence sets, none where it ends before its index byte
(R558). -/
def classify : List Byte → Option (Space × Byte)
  | [] => none
  | b0 :: rest =>
    if b0 == 0xCB then (rest[0]?).map fun op => (Space.cb, op)
    else if b0 == 0xED then (rest[0]?).map fun op => (Space.ed, op)
    else if b0 == 0xDD || b0 == 0xFD then
      match rest with
      | [] => none
      | b1 :: more => if b1 == 0xCB then (more[1]?).map fun op => (Space.xycb, op) else some (Space.xy, b1)
    else some (Space.base, b0)

/-- The byte sequences a slot stands for (R556, R557). -/
def expandSlot : Slot → List (List Byte)
  | .lit b => [[b]]
  | .reg base k => (List.range 8).map fun v => [base + BitVec.ofNat 8 (k * v)]
  | .reg2 base k1 k2 =>
    (List.range 8).flatMap fun v1 => (List.range 8).map fun v2 => [base + BitVec.ofNat 8 (k1 * v1 + k2 * v2)]
  | .imm8 => [[0]]
  | .off => [[0]]
  | .imm16 => [[0, 0]]

/-- The concrete byte sequences of a pattern (R557). -/
def expand : List Slot → List (List Byte)
  | [] => [[]]
  | slot :: rest => (expandSlot slot).flatMap fun bs => (expand rest).map fun more => bs ++ more

/-- An operand slot: no opcode byte (R556, R566 (a)). -/
def Slot.isOperand : Slot → Bool
  | .imm8 => true
  | .off => true
  | .imm16 => true
  | _ => false

/-- The table and index of each usable byte sequence of a pattern; an empty pattern and one of operand slots only
have none (R566 (a); log 21). -/
def targets (pattern : List Slot) : List (Space × Byte) :=
  if pattern.all Slot.isOperand then [] else (expand pattern).filterMap classify

/-- Write entry `k` of a list of entries unless it is set: the first value wins (R559). -/
def setUnsetEntry (c : Nat) : Nat → List (Option Nat) → List (Option Nat)
  | _, [] => []
  | 0, x :: xs => x.or (some c) :: xs
  | k + 1, x :: xs => x :: setUnsetEntry c k xs

/-- Writing an entry keeps the number of entries. -/
theorem setUnsetEntry_length (c k : Nat) (t : List (Option Nat)) : (setUnsetEntry c k t).length = t.length := by
  induction t generalizing k with
  | nil => cases k <;> rfl
  | cons x xs ih => cases k <;> simp [setUnsetEntry, ih]

/-- An entry is written once: the first value wins (R559). -/
def TimingTable.setUnset (t : TimingTable) (op : Byte) (c : Nat) : TimingTable :=
  ⟨⟨setUnsetEntry c op.toNat t.toList⟩, by rw [List.size_toArray, setUnsetEntry_length]; simp⟩

/-- The primary table of a space (10_state.md R57). -/
def TimingTables.primary (t : TimingTables) : Space → TimingTable
  | .base => t.base
  | .cb => t.cb
  | .ed => t.ed
  | .xy => t.xy
  | .xycb => t.xycb

/-- Set a primary entry (R561). -/
def TimingTables.setPrimary (t : TimingTables) (sp : Space) (op : Byte) (c : Nat) : TimingTables :=
  match sp with
  | .base => { t with base := TimingTable.setUnset t.base op c }
  | .cb => { t with cb := TimingTable.setUnset t.cb op c }
  | .ed => { t with ed := TimingTable.setUnset t.ed op c }
  | .xy => { t with xy := TimingTable.setUnset t.xy op c }
  | .xycb => { t with xycb := TimingTable.setUnset t.xycb op c }

/-- Set a delta entry; only the base and ED spaces have an alternate table (R562). -/
def TimingTables.setDelta (t : TimingTables) (sp : Space) (op : Byte) (c : Nat) : TimingTables :=
  match sp with
  | .base => { t with baseAlt := TimingTable.setUnset t.baseAlt op c }
  | .ed => { t with edAlt := TimingTable.setUnset t.edAlt op c }
  | _ => t

/-- Two counts are allowed in this space (R562, R566 (b)). -/
def Space.hasDelta : Space → Bool
  | .base => true
  | .ed => true
  | _ => false

/-- What one entry does to the tables at its targets (R561 to R563). -/
def TimingTables.enter (t : TimingTables) (counts : Counts) (at_ : List (Space × Byte)) : TimingTables :=
  at_.foldl (fun acc x =>
    match counts with
    | .one c => acc.setPrimary x.1 x.2 c
    | .two c1 c2 => (acc.setPrimary x.1 x.2 (min c1 c2)).setDelta x.1 x.2 (max c1 c2 - min c1 c2)) t

/-- A configuration error: no usable byte pattern, or two counts outside the base and ED spaces (R566). -/
def TimingEntry.isBad (e : TimingEntry) : Bool :=
  match e.counts with
  | .one _ => (targets e.pattern).isEmpty
  | .two _ _ => (targets e.pattern).isEmpty || (targets e.pattern).any fun x => !Space.hasDelta x.1

/-- `TimingConfigError(entry)` (R566). -/
structure TimingConfigError where
  entry : TimingEntry
  deriving DecidableEq, Repr

/-- The tables with every entry unset (10_state.md R57). -/
def TimingTables.unset : TimingTables :=
  let t := Vector.replicate 256 none
  { base := t, cb := t, ed := t, xy := t, xycb := t, baseAlt := t, edAlt := t }

/-- Build on top of given tables, in the order of the list (R555). -/
def buildOn (t : TimingTables) : List TimingEntry → Except TimingConfigError TimingTables
  | [] => .ok t
  | e :: rest => if e.isBad then .error ⟨e⟩ else buildOn (t.enter e.counts (targets e.pattern)) rest

/-- Build the seven tables from a `TIMING_SPEC` (R555 to R566). -/
def buildTables (spec : List TimingEntry) : Except TimingConfigError TimingTables := buildOn TimingTables.unset spec

/-! ## The default specification (R560) -/

/-- The base space of the default specification (R560). -/
def timingSpecBase : List TimingEntry :=
  [ ⟨[.lit 0x76], .one 4⟩, ⟨[.reg 0x46 8], .one 7⟩, ⟨[.reg 0x70 1], .one 7⟩, ⟨[.reg 0x86 8], .one 7⟩,
    ⟨[.reg2 0x40 8 1], .one 4⟩, ⟨[.reg2 0x80 8 1], .one 4⟩, ⟨[.lit 0x00], .one 4⟩, ⟨[.lit 0x08], .one 4⟩,
    ⟨[.lit 0x07], .one 4⟩, ⟨[.lit 0x0F], .one 4⟩, ⟨[.lit 0x17], .one 4⟩, ⟨[.lit 0x1F], .one 4⟩,
    ⟨[.lit 0x27], .one 4⟩, ⟨[.lit 0x2F], .one 4⟩, ⟨[.lit 0x37], .one 4⟩, ⟨[.lit 0x3F], .one 4⟩,
    ⟨[.lit 0xD9], .one 4⟩, ⟨[.lit 0xE9], .one 4⟩, ⟨[.lit 0xEB], .one 4⟩, ⟨[.lit 0xF3], .one 4⟩,
    ⟨[.lit 0xFB], .one 4⟩, ⟨[.lit 0x34], .one 11⟩, ⟨[.lit 0x35], .one 11⟩, ⟨[.reg 0x04 8], .one 4⟩ ]
  ++ [ ⟨[.reg 0x05 8], .one 4⟩, ⟨[.lit 0x36, .imm8], .one 10⟩, ⟨[.reg 0x06 8, .imm8], .one 7⟩,
    ⟨[.lit 0x01, .imm16], .one 10⟩, ⟨[.lit 0x11, .imm16], .one 10⟩, ⟨[.lit 0x21, .imm16], .one 10⟩,
    ⟨[.lit 0x31, .imm16], .one 10⟩, ⟨[.lit 0x09], .one 11⟩, ⟨[.lit 0x19], .one 11⟩, ⟨[.lit 0x29], .one 11⟩,
    ⟨[.lit 0x39], .one 11⟩, ⟨[.lit 0x03], .one 6⟩, ⟨[.lit 0x13], .one 6⟩, ⟨[.lit 0x23], .one 6⟩,
    ⟨[.lit 0x33], .one 6⟩, ⟨[.lit 0x0B], .one 6⟩, ⟨[.lit 0x1B], .one 6⟩, ⟨[.lit 0x2B], .one 6⟩,
    ⟨[.lit 0x3B], .one 6⟩, ⟨[.lit 0x02], .one 7⟩, ⟨[.lit 0x0A], .one 7⟩, ⟨[.lit 0x12], .one 7⟩,
    ⟨[.lit 0x1A], .one 7⟩, ⟨[.lit 0x22, .imm16], .one 16⟩ ]
  ++ [ ⟨[.lit 0x2A, .imm16], .one 16⟩, ⟨[.lit 0x32, .imm16], .one 13⟩, ⟨[.lit 0x3A, .imm16], .one 13⟩,
    ⟨[.lit 0x10, .off], .two 13 8⟩, ⟨[.lit 0x18, .off], .one 12⟩, ⟨[.lit 0x20, .off], .two 12 7⟩,
    ⟨[.lit 0x28, .off], .two 12 7⟩, ⟨[.lit 0x30, .off], .two 12 7⟩, ⟨[.lit 0x38, .off], .two 12 7⟩,
    ⟨[.reg 0xC2 8, .imm16], .two 10 10⟩, ⟨[.lit 0xC3, .imm16], .one 10⟩, ⟨[.reg 0xC4 8, .imm16], .two 17 10⟩,
    ⟨[.lit 0xCD, .imm16], .one 17⟩, ⟨[.reg 0xC0 8], .two 11 5⟩, ⟨[.lit 0xC9], .one 10⟩,
    ⟨[.reg 0xC7 8], .one 11⟩, ⟨[.lit 0xC1], .one 10⟩, ⟨[.lit 0xD1], .one 10⟩, ⟨[.lit 0xE1], .one 10⟩,
    ⟨[.lit 0xF1], .one 10⟩, ⟨[.lit 0xC5], .one 11⟩, ⟨[.lit 0xD5], .one 11⟩, ⟨[.lit 0xE5], .one 11⟩,
    ⟨[.lit 0xF5], .one 11⟩ ]
  ++ [ ⟨[.reg 0xC6 8, .imm8], .one 7⟩, ⟨[.lit 0xD3, .imm8], .one 11⟩, ⟨[.lit 0xDB, .imm8], .one 11⟩,
    ⟨[.lit 0xE3], .one 19⟩, ⟨[.lit 0xF9], .one 6⟩ ]

/-- The CB space of the default specification (R560). -/
def timingSpecCB : List TimingEntry :=
  [ ⟨[.lit 0xCB, .reg 0x46 8], .one 12⟩, ⟨[.lit 0xCB, .reg 0x06 8], .one 15⟩,
    ⟨[.lit 0xCB, .reg 0x86 8], .one 15⟩, ⟨[.lit 0xCB, .reg 0xC6 8], .one 15⟩,
    ⟨[.lit 0xCB, .reg2 0x40 8 1], .one 8⟩, ⟨[.lit 0xCB, .reg2 0x00 8 1], .one 8⟩,
    ⟨[.lit 0xCB, .reg2 0x80 8 1], .one 8⟩, ⟨[.lit 0xCB, .reg2 0xC0 8 1], .one 8⟩ ]

/-- The ED space of the default specification, the second encodings of R136 among them (R560). -/
def timingSpecED : List TimingEntry :=
  [ ⟨[.lit 0xED, .reg 0x40 8], .one 12⟩, ⟨[.lit 0xED, .reg 0x41 8], .one 12⟩,
    ⟨[.lit 0xED, .lit 0x42], .one 15⟩, ⟨[.lit 0xED, .lit 0x52], .one 15⟩, ⟨[.lit 0xED, .lit 0x62], .one 15⟩,
    ⟨[.lit 0xED, .lit 0x72], .one 15⟩, ⟨[.lit 0xED, .lit 0x4A], .one 15⟩, ⟨[.lit 0xED, .lit 0x5A], .one 15⟩,
    ⟨[.lit 0xED, .lit 0x6A], .one 15⟩, ⟨[.lit 0xED, .lit 0x7A], .one 15⟩,
    ⟨[.lit 0xED, .lit 0x43, .imm16], .one 20⟩, ⟨[.lit 0xED, .lit 0x53, .imm16], .one 20⟩,
    ⟨[.lit 0xED, .lit 0x63, .imm16], .one 20⟩, ⟨[.lit 0xED, .lit 0x73, .imm16], .one 20⟩,
    ⟨[.lit 0xED, .lit 0x4B, .imm16], .one 20⟩, ⟨[.lit 0xED, .lit 0x5B, .imm16], .one 20⟩,
    ⟨[.lit 0xED, .lit 0x6B, .imm16], .one 20⟩, ⟨[.lit 0xED, .lit 0x7B, .imm16], .one 20⟩,
    ⟨[.lit 0xED, .reg 0x44 8], .one 8⟩, ⟨[.lit 0xED, .reg 0x45 8], .one 14⟩,
    ⟨[.lit 0xED, .reg 0x46 8], .one 8⟩, ⟨[.lit 0xED, .lit 0x47], .one 9⟩, ⟨[.lit 0xED, .lit 0x4F], .one 9⟩,
    ⟨[.lit 0xED, .lit 0x57], .one 9⟩ ]
  ++ [ ⟨[.lit 0xED, .lit 0x5F], .one 9⟩, ⟨[.lit 0xED, .lit 0x67], .one 18⟩, ⟨[.lit 0xED, .lit 0x6F], .one 18⟩,
    ⟨[.lit 0xED, .lit 0xA0], .one 16⟩, ⟨[.lit 0xED, .lit 0xA1], .one 16⟩, ⟨[.lit 0xED, .lit 0xA2], .one 16⟩,
    ⟨[.lit 0xED, .lit 0xA3], .one 16⟩, ⟨[.lit 0xED, .lit 0xA8], .one 16⟩, ⟨[.lit 0xED, .lit 0xA9], .one 16⟩,
    ⟨[.lit 0xED, .lit 0xAA], .one 16⟩, ⟨[.lit 0xED, .lit 0xAB], .one 16⟩,
    ⟨[.lit 0xED, .lit 0xB0], .two 21 16⟩, ⟨[.lit 0xED, .lit 0xB1], .two 21 16⟩,
    ⟨[.lit 0xED, .lit 0xB2], .two 21 16⟩, ⟨[.lit 0xED, .lit 0xB3], .two 21 16⟩,
    ⟨[.lit 0xED, .lit 0xB8], .two 21 16⟩, ⟨[.lit 0xED, .lit 0xB9], .two 21 16⟩,
    ⟨[.lit 0xED, .lit 0xBA], .two 21 16⟩, ⟨[.lit 0xED, .lit 0xBB], .two 21 16⟩ ]

/-- The DD/FD space of the default specification, less the leading DD or FD (R560). -/
def timingSpecXYAfterByte : List TimingEntry :=
  [ ⟨[.lit 0x09], .one 15⟩, ⟨[.lit 0x19], .one 15⟩, ⟨[.lit 0x29], .one 15⟩, ⟨[.lit 0x39], .one 15⟩,
    ⟨[.lit 0x21, .imm16], .one 14⟩, ⟨[.lit 0x22, .imm16], .one 20⟩, ⟨[.lit 0x2A, .imm16], .one 20⟩,
    ⟨[.lit 0x23], .one 10⟩, ⟨[.lit 0x2B], .one 10⟩, ⟨[.lit 0x24], .one 8⟩, ⟨[.lit 0x25], .one 8⟩,
    ⟨[.lit 0x2C], .one 8⟩, ⟨[.lit 0x2D], .one 8⟩, ⟨[.lit 0x26, .imm8], .one 11⟩,
    ⟨[.lit 0x2E, .imm8], .one 11⟩, ⟨[.lit 0x34, .off], .one 23⟩, ⟨[.lit 0x35, .off], .one 23⟩,
    ⟨[.lit 0x36, .off, .imm8], .one 19⟩, ⟨[.lit 0x46, .off], .one 19⟩, ⟨[.lit 0x4E, .off], .one 19⟩,
    ⟨[.lit 0x56, .off], .one 19⟩, ⟨[.lit 0x5E, .off], .one 19⟩, ⟨[.lit 0x66, .off], .one 19⟩,
    ⟨[.lit 0x6E, .off], .one 19⟩ ]
  ++ [ ⟨[.lit 0x7E, .off], .one 19⟩, ⟨[.lit 0x70, .off], .one 19⟩, ⟨[.lit 0x71, .off], .one 19⟩,
    ⟨[.lit 0x72, .off], .one 19⟩, ⟨[.lit 0x73, .off], .one 19⟩, ⟨[.lit 0x74, .off], .one 19⟩,
    ⟨[.lit 0x75, .off], .one 19⟩, ⟨[.lit 0x77, .off], .one 19⟩, ⟨[.lit 0x44], .one 8⟩, ⟨[.lit 0x45], .one 8⟩,
    ⟨[.lit 0x4C], .one 8⟩, ⟨[.lit 0x4D], .one 8⟩, ⟨[.lit 0x54], .one 8⟩, ⟨[.lit 0x55], .one 8⟩,
    ⟨[.lit 0x5C], .one 8⟩, ⟨[.lit 0x5D], .one 8⟩, ⟨[.lit 0x60], .one 8⟩, ⟨[.lit 0x61], .one 8⟩,
    ⟨[.lit 0x62], .one 8⟩, ⟨[.lit 0x63], .one 8⟩, ⟨[.lit 0x64], .one 8⟩, ⟨[.lit 0x65], .one 8⟩,
    ⟨[.lit 0x67], .one 8⟩, ⟨[.lit 0x68], .one 8⟩ ]
  ++ [ ⟨[.lit 0x69], .one 8⟩, ⟨[.lit 0x6A], .one 8⟩, ⟨[.lit 0x6B], .one 8⟩, ⟨[.lit 0x6C], .one 8⟩,
    ⟨[.lit 0x6D], .one 8⟩, ⟨[.lit 0x6F], .one 8⟩, ⟨[.lit 0x7C], .one 8⟩, ⟨[.lit 0x7D], .one 8⟩,
    ⟨[.reg 0x86 8, .off], .one 19⟩, ⟨[.reg 0x84 8], .one 8⟩, ⟨[.reg 0x85 8], .one 8⟩, ⟨[.lit 0xE1], .one 14⟩,
    ⟨[.lit 0xE3], .one 23⟩, ⟨[.lit 0xE5], .one 15⟩, ⟨[.lit 0xE9], .one 8⟩, ⟨[.lit 0xF9], .one 10⟩ ]

/-- The DD/FD CB space of the default specification, less the leading DD or FD (R560). -/
def timingSpecXYCBAfterByte : List TimingEntry :=
  [ ⟨[.lit 0xCB, .off, .reg2 0x40 8 1], .one 20⟩, ⟨[.lit 0xCB, .off, .reg2 0x00 8 1], .one 23⟩,
    ⟨[.lit 0xCB, .off, .reg2 0x80 8 1], .one 23⟩, ⟨[.lit 0xCB, .off, .reg2 0xC0 8 1], .one 23⟩ ]

/-- The entries behind a leading byte. -/
def behind (b : Byte) (spec : List TimingEntry) : List TimingEntry :=
  spec.map fun e => ⟨.lit b :: e.pattern, e.counts⟩

/-- The default `TIMING_SPEC` (R560): each DD/FD entry once with DD and once with FD. -/
def defaultTimingSpec : List TimingEntry :=
  timingSpecBase ++ timingSpecCB ++ timingSpecED
  ++ behind 0xDD timingSpecXYAfterByte ++ behind 0xFD timingSpecXYAfterByte
  ++ behind 0xDD timingSpecXYCBAfterByte ++ behind 0xFD timingSpecXYCBAfterByte

/-! ## The tables it builds -/

/-- A written entry, -1 for an unset one (10_state.md R57). -/
def writtenEntry (v : Int) : Option Nat := if v < 0 then none else some v.toNat

/-- `T_BASE` of the default specification, entries 0x00 to 0xFF, sixteen a line. -/
def defaultBaseList : List (List Int) :=
  [ [4, 10, 7, 6, 4, 4, 7, 4, 4, 11, 7, 6, 4, 4, 7, 4],
    [8, 10, 7, 6, 4, 4, 7, 4, 12, 11, 7, 6, 4, 4, 7, 4],
    [7, 10, 16, 6, 4, 4, 7, 4, 7, 11, 16, 6, 4, 4, 7, 4],
    [7, 10, 13, 6, 11, 11, 10, 4, 7, 11, 13, 6, 4, 4, 7, 4],
    [4, 4, 4, 4, 4, 4, 7, 4, 4, 4, 4, 4, 4, 4, 7, 4],
    [4, 4, 4, 4, 4, 4, 7, 4, 4, 4, 4, 4, 4, 4, 7, 4],
    [4, 4, 4, 4, 4, 4, 7, 4, 4, 4, 4, 4, 4, 4, 7, 4],
    [7, 7, 7, 7, 7, 7, 4, 7, 4, 4, 4, 4, 4, 4, 7, 4],
    [4, 4, 4, 4, 4, 4, 7, 4, 4, 4, 4, 4, 4, 4, 7, 4],
    [4, 4, 4, 4, 4, 4, 7, 4, 4, 4, 4, 4, 4, 4, 7, 4],
    [4, 4, 4, 4, 4, 4, 7, 4, 4, 4, 4, 4, 4, 4, 7, 4],
    [4, 4, 4, 4, 4, 4, 7, 4, 4, 4, 4, 4, 4, 4, 7, 4],
    [5, 10, 10, 10, 10, 11, 7, 11, 5, 10, 10, -1, 10, 17, 7, 11],
    [5, 10, 10, 11, 10, 11, 7, 11, 5, 4, 10, 11, 10, -1, 7, 11],
    [5, 10, 10, 19, 10, 11, 7, 11, 5, 4, 10, 4, 10, -1, 7, 11],
    [5, 10, 10, 4, 10, 11, 7, 11, 5, 6, 10, 4, 10, -1, 7, 11] ]

/-- `T_CB` of the default specification, entries 0x00 to 0xFF, sixteen a line. -/
def defaultCbList : List (List Int) :=
  [ [8, 8, 8, 8, 8, 8, 15, 8, 8, 8, 8, 8, 8, 8, 15, 8],
    [8, 8, 8, 8, 8, 8, 15, 8, 8, 8, 8, 8, 8, 8, 15, 8],
    [8, 8, 8, 8, 8, 8, 15, 8, 8, 8, 8, 8, 8, 8, 15, 8],
    [8, 8, 8, 8, 8, 8, 15, 8, 8, 8, 8, 8, 8, 8, 15, 8],
    [8, 8, 8, 8, 8, 8, 12, 8, 8, 8, 8, 8, 8, 8, 12, 8],
    [8, 8, 8, 8, 8, 8, 12, 8, 8, 8, 8, 8, 8, 8, 12, 8],
    [8, 8, 8, 8, 8, 8, 12, 8, 8, 8, 8, 8, 8, 8, 12, 8],
    [8, 8, 8, 8, 8, 8, 12, 8, 8, 8, 8, 8, 8, 8, 12, 8],
    [8, 8, 8, 8, 8, 8, 15, 8, 8, 8, 8, 8, 8, 8, 15, 8],
    [8, 8, 8, 8, 8, 8, 15, 8, 8, 8, 8, 8, 8, 8, 15, 8],
    [8, 8, 8, 8, 8, 8, 15, 8, 8, 8, 8, 8, 8, 8, 15, 8],
    [8, 8, 8, 8, 8, 8, 15, 8, 8, 8, 8, 8, 8, 8, 15, 8],
    [8, 8, 8, 8, 8, 8, 15, 8, 8, 8, 8, 8, 8, 8, 15, 8],
    [8, 8, 8, 8, 8, 8, 15, 8, 8, 8, 8, 8, 8, 8, 15, 8],
    [8, 8, 8, 8, 8, 8, 15, 8, 8, 8, 8, 8, 8, 8, 15, 8],
    [8, 8, 8, 8, 8, 8, 15, 8, 8, 8, 8, 8, 8, 8, 15, 8] ]

/-- `T_ED` of the default specification, entries 0x00 to 0xFF, sixteen a line. -/
def defaultEdList : List (List Int) :=
  [ [-1, -1, -1, -1, -1, -1, -1, -1, -1, -1, -1, -1, -1, -1, -1, -1],
    [-1, -1, -1, -1, -1, -1, -1, -1, -1, -1, -1, -1, -1, -1, -1, -1],
    [-1, -1, -1, -1, -1, -1, -1, -1, -1, -1, -1, -1, -1, -1, -1, -1],
    [-1, -1, -1, -1, -1, -1, -1, -1, -1, -1, -1, -1, -1, -1, -1, -1],
    [12, 12, 15, 20, 8, 14, 8, 9, 12, 12, 15, 20, 8, 14, 8, 9],
    [12, 12, 15, 20, 8, 14, 8, 9, 12, 12, 15, 20, 8, 14, 8, 9],
    [12, 12, 15, 20, 8, 14, 8, 18, 12, 12, 15, 20, 8, 14, 8, 18],
    [12, 12, 15, 20, 8, 14, 8, -1, 12, 12, 15, 20, 8, 14, 8, -1],
    [-1, -1, -1, -1, -1, -1, -1, -1, -1, -1, -1, -1, -1, -1, -1, -1],
    [-1, -1, -1, -1, -1, -1, -1, -1, -1, -1, -1, -1, -1, -1, -1, -1],
    [16, 16, 16, 16, -1, -1, -1, -1, 16, 16, 16, 16, -1, -1, -1, -1],
    [16, 16, 16, 16, -1, -1, -1, -1, 16, 16, 16, 16, -1, -1, -1, -1],
    [-1, -1, -1, -1, -1, -1, -1, -1, -1, -1, -1, -1, -1, -1, -1, -1],
    [-1, -1, -1, -1, -1, -1, -1, -1, -1, -1, -1, -1, -1, -1, -1, -1],
    [-1, -1, -1, -1, -1, -1, -1, -1, -1, -1, -1, -1, -1, -1, -1, -1],
    [-1, -1, -1, -1, -1, -1, -1, -1, -1, -1, -1, -1, -1, -1, -1, -1] ]

/-- `T_XY` of the default specification, entries 0x00 to 0xFF, sixteen a line. -/
def defaultXyList : List (List Int) :=
  [ [-1, -1, -1, -1, -1, -1, -1, -1, -1, 15, -1, -1, -1, -1, -1, -1],
    [-1, -1, -1, -1, -1, -1, -1, -1, -1, 15, -1, -1, -1, -1, -1, -1],
    [-1, 14, 20, 10, 8, 8, 11, -1, -1, 15, 20, 10, 8, 8, 11, -1],
    [-1, -1, -1, -1, 23, 23, 19, -1, -1, 15, -1, -1, -1, -1, -1, -1],
    [-1, -1, -1, -1, 8, 8, 19, -1, -1, -1, -1, -1, 8, 8, 19, -1],
    [-1, -1, -1, -1, 8, 8, 19, -1, -1, -1, -1, -1, 8, 8, 19, -1],
    [8, 8, 8, 8, 8, 8, 19, 8, 8, 8, 8, 8, 8, 8, 19, 8],
    [19, 19, 19, 19, 19, 19, -1, 19, -1, -1, -1, -1, 8, 8, 19, -1],
    [-1, -1, -1, -1, 8, 8, 19, -1, -1, -1, -1, -1, 8, 8, 19, -1],
    [-1, -1, -1, -1, 8, 8, 19, -1, -1, -1, -1, -1, 8, 8, 19, -1],
    [-1, -1, -1, -1, 8, 8, 19, -1, -1, -1, -1, -1, 8, 8, 19, -1],
    [-1, -1, -1, -1, 8, 8, 19, -1, -1, -1, -1, -1, 8, 8, 19, -1],
    [-1, -1, -1, -1, -1, -1, -1, -1, -1, -1, -1, -1, -1, -1, -1, -1],
    [-1, -1, -1, -1, -1, -1, -1, -1, -1, -1, -1, -1, -1, -1, -1, -1],
    [-1, 14, -1, 23, -1, 15, -1, -1, -1, 8, -1, -1, -1, -1, -1, -1],
    [-1, -1, -1, -1, -1, -1, -1, -1, -1, 10, -1, -1, -1, -1, -1, -1] ]

/-- `T_XYCB` of the default specification, entries 0x00 to 0xFF, sixteen a line. -/
def defaultXycbList : List (List Int) :=
  [ [23, 23, 23, 23, 23, 23, 23, 23, 23, 23, 23, 23, 23, 23, 23, 23],
    [23, 23, 23, 23, 23, 23, 23, 23, 23, 23, 23, 23, 23, 23, 23, 23],
    [23, 23, 23, 23, 23, 23, 23, 23, 23, 23, 23, 23, 23, 23, 23, 23],
    [23, 23, 23, 23, 23, 23, 23, 23, 23, 23, 23, 23, 23, 23, 23, 23],
    [20, 20, 20, 20, 20, 20, 20, 20, 20, 20, 20, 20, 20, 20, 20, 20],
    [20, 20, 20, 20, 20, 20, 20, 20, 20, 20, 20, 20, 20, 20, 20, 20],
    [20, 20, 20, 20, 20, 20, 20, 20, 20, 20, 20, 20, 20, 20, 20, 20],
    [20, 20, 20, 20, 20, 20, 20, 20, 20, 20, 20, 20, 20, 20, 20, 20],
    [23, 23, 23, 23, 23, 23, 23, 23, 23, 23, 23, 23, 23, 23, 23, 23],
    [23, 23, 23, 23, 23, 23, 23, 23, 23, 23, 23, 23, 23, 23, 23, 23],
    [23, 23, 23, 23, 23, 23, 23, 23, 23, 23, 23, 23, 23, 23, 23, 23],
    [23, 23, 23, 23, 23, 23, 23, 23, 23, 23, 23, 23, 23, 23, 23, 23],
    [23, 23, 23, 23, 23, 23, 23, 23, 23, 23, 23, 23, 23, 23, 23, 23],
    [23, 23, 23, 23, 23, 23, 23, 23, 23, 23, 23, 23, 23, 23, 23, 23],
    [23, 23, 23, 23, 23, 23, 23, 23, 23, 23, 23, 23, 23, 23, 23, 23],
    [23, 23, 23, 23, 23, 23, 23, 23, 23, 23, 23, 23, 23, 23, 23, 23] ]

/-- `T_BASE_ALT` of the default specification, entries 0x00 to 0xFF, sixteen a line. -/
def defaultBaseAltList : List (List Int) :=
  [ [-1, -1, -1, -1, -1, -1, -1, -1, -1, -1, -1, -1, -1, -1, -1, -1],
    [5, -1, -1, -1, -1, -1, -1, -1, -1, -1, -1, -1, -1, -1, -1, -1],
    [5, -1, -1, -1, -1, -1, -1, -1, 5, -1, -1, -1, -1, -1, -1, -1],
    [5, -1, -1, -1, -1, -1, -1, -1, 5, -1, -1, -1, -1, -1, -1, -1],
    [-1, -1, -1, -1, -1, -1, -1, -1, -1, -1, -1, -1, -1, -1, -1, -1],
    [-1, -1, -1, -1, -1, -1, -1, -1, -1, -1, -1, -1, -1, -1, -1, -1],
    [-1, -1, -1, -1, -1, -1, -1, -1, -1, -1, -1, -1, -1, -1, -1, -1],
    [-1, -1, -1, -1, -1, -1, -1, -1, -1, -1, -1, -1, -1, -1, -1, -1],
    [-1, -1, -1, -1, -1, -1, -1, -1, -1, -1, -1, -1, -1, -1, -1, -1],
    [-1, -1, -1, -1, -1, -1, -1, -1, -1, -1, -1, -1, -1, -1, -1, -1],
    [-1, -1, -1, -1, -1, -1, -1, -1, -1, -1, -1, -1, -1, -1, -1, -1],
    [-1, -1, -1, -1, -1, -1, -1, -1, -1, -1, -1, -1, -1, -1, -1, -1],
    [6, -1, 0, -1, 7, -1, -1, -1, 6, -1, 0, -1, 7, -1, -1, -1],
    [6, -1, 0, -1, 7, -1, -1, -1, 6, -1, 0, -1, 7, -1, -1, -1],
    [6, -1, 0, -1, 7, -1, -1, -1, 6, -1, 0, -1, 7, -1, -1, -1],
    [6, -1, 0, -1, 7, -1, -1, -1, 6, -1, 0, -1, 7, -1, -1, -1] ]

/-- `T_ED_ALT` of the default specification, entries 0x00 to 0xFF, sixteen a line. -/
def defaultEdAltList : List (List Int) :=
  [ [-1, -1, -1, -1, -1, -1, -1, -1, -1, -1, -1, -1, -1, -1, -1, -1],
    [-1, -1, -1, -1, -1, -1, -1, -1, -1, -1, -1, -1, -1, -1, -1, -1],
    [-1, -1, -1, -1, -1, -1, -1, -1, -1, -1, -1, -1, -1, -1, -1, -1],
    [-1, -1, -1, -1, -1, -1, -1, -1, -1, -1, -1, -1, -1, -1, -1, -1],
    [-1, -1, -1, -1, -1, -1, -1, -1, -1, -1, -1, -1, -1, -1, -1, -1],
    [-1, -1, -1, -1, -1, -1, -1, -1, -1, -1, -1, -1, -1, -1, -1, -1],
    [-1, -1, -1, -1, -1, -1, -1, -1, -1, -1, -1, -1, -1, -1, -1, -1],
    [-1, -1, -1, -1, -1, -1, -1, -1, -1, -1, -1, -1, -1, -1, -1, -1],
    [-1, -1, -1, -1, -1, -1, -1, -1, -1, -1, -1, -1, -1, -1, -1, -1],
    [-1, -1, -1, -1, -1, -1, -1, -1, -1, -1, -1, -1, -1, -1, -1, -1],
    [-1, -1, -1, -1, -1, -1, -1, -1, -1, -1, -1, -1, -1, -1, -1, -1],
    [5, 5, 5, 5, -1, -1, -1, -1, 5, 5, 5, 5, -1, -1, -1, -1],
    [-1, -1, -1, -1, -1, -1, -1, -1, -1, -1, -1, -1, -1, -1, -1, -1],
    [-1, -1, -1, -1, -1, -1, -1, -1, -1, -1, -1, -1, -1, -1, -1, -1],
    [-1, -1, -1, -1, -1, -1, -1, -1, -1, -1, -1, -1, -1, -1, -1, -1],
    [-1, -1, -1, -1, -1, -1, -1, -1, -1, -1, -1, -1, -1, -1, -1, -1] ]

/-- A table of 256 written entries, in lines. -/
def writtenTable (lines : List (List Int)) (h : (lines.flatten.map writtenEntry).length = 256) : TimingTable :=
  ⟨⟨lines.flatten.map writtenEntry⟩, h⟩

/-- The seven tables of the default specification. -/
def defaultTables : TimingTables where
  base := writtenTable defaultBaseList (by decide +kernel)
  cb := writtenTable defaultCbList (by decide +kernel)
  ed := writtenTable defaultEdList (by decide +kernel)
  xy := writtenTable defaultXyList (by decide +kernel)
  xycb := writtenTable defaultXycbList (by decide +kernel)
  baseAlt := writtenTable defaultBaseAltList (by decide +kernel)
  edAlt := writtenTable defaultEdAltList (by decide +kernel)

end Sys2Proof
end

