-- ==== Sys2Proof/Machine/State.lean ====
section
/-! DEFINITION. The state of the engine (spec/10_state.md R30 to R63), why a step can stop, and the state after
reset (spec/70_reset_and_hazards.md R530, R532). -/

namespace Sys2Proof.Machine

/-- The flag register F, one named flag per bit, bit 7 first (10_state.md R40).
R39 allows the named form; the packed byte is `Flags.pack` (log 13). -/
structure Flags where
  s : Bool
  z : Bool
  f5 : Bool
  h : Bool
  f3 : Bool
  pv : Bool
  n : Bool
  c : Bool
  deriving DecidableEq, Repr

/-- F = 0x00. -/
def Flags.zero : Flags := ⟨false, false, false, false, false, false, false, false⟩

/-- The interrupt mode, 0, 1 or 2 (10_state.md R56; log 14). -/
inductive Im where
  | im0 | im1 | im2
  deriving DecidableEq, Repr

/-- Memory as the listed cells, addresses strictly rising, no listed cell holding what an unlisted one reads as
(20_memory.md R81, R87; log 1). -/
abbrev Memory := List Host.Cell

/-- The state of the engine (10_state.md R63), its parameters (00_scope.md R7) and the model's own fields
`trace`, `ioIn` and `draws`. -/
structure State where
  /-- accumulator (R30) -/
  a : Byte
  /-- flag register (R39) -/
  f : Flags
  b : Byte
  c : Byte
  d : Byte
  e : Byte
  h : Byte
  l : Byte
  /-- shadow accumulator (R33) -/
  a' : Byte
  /-- shadow flag register (R33) -/
  f' : Flags
  b' : Byte
  c' : Byte
  d' : Byte
  e' : Byte
  h' : Byte
  l' : Byte
  /-- index registers (R34) -/
  ix : Word
  iy : Word
  /-- stack pointer (R35) -/
  sp : Word
  /-- program counter (R36) -/
  pc : Word
  /-- interrupt-vector register (R37) -/
  i : Byte
  /-- refresh register (R38) -/
  r : Byte
  /-- interrupt-enable flip-flops (R51) -/
  iff1 : Bool
  iff2 : Bool
  /-- halted (R49) -/
  halt : Bool
  /-- the EI/DI latch (R52) -/
  eidi : Bool
  /-- the pending-NMI latch (R53) -/
  nmi : Bool
  /-- a block repeat in progress (R54; log 15) -/
  blockMove : Bool
  /-- interrupt mode (R56) -/
  im : Im
  /-- the configurable reset vector (R55) -/
  resetAddress : Word
  /-- the cycle counter `T` (R50) -/
  tStates : Nat
  /-- the seven timing tables (R57) -/
  timing : TimingTables
  /-- the parameters (00_scope.md R7; log 2) -/
  params : Params
  /-- memory (20_memory.md R80 to R88) -/
  mem : Memory
  /-- model's own: the access trace, newest first (20_memory.md R94; log 8) -/
  trace : List Event
  /-- model's own: port answers the I/O collaborator has ready, oldest first (log 6) -/
  ioIn : List Byte
  /-- model's own: how many executions have drawn free flag bits (log 5) -/
  draws : Nat
  deriving DecidableEq, Repr

/-- Why a step ends without completing an instruction.
The spec's own two carry the address of the instruction's first byte, the bytes fetched and the state the step leaves,
from which the caller may go on (60_exceptions.md R492; log 9). -/
inductive Fault where
  /-- `UnimplementedOpcode(info)`: raised by `step` at decode when no enabled row matches (60_exceptions.md R492).
  Safe: it is the spec's own outcome. -/
  | unimplementedOpcode (pc : Word) (bytes : List Byte) (after : State)
  /-- `TimingUnset(info)`: raised by `step` when a defined and enabled opcode has no primary timing entry (R493).
  Safe: it is the spec's own outcome. -/
  | timingUnset (pc : Word) (bytes : List Byte) (after : State)
  /-- Raised by `step` under `DDFD_UNDOC = Execute` where discarded DD and FD bytes from `pc` on never end: the
  spec's step does not end there and leaves no state (30_encoding.md R137; log 11).
  Safe: nothing is said of what follows. -/
  | endlessPrefixChain (pc : Word)
  deriving DecidableEq, Repr

/-- Why an instruction term has no meaning. -/
inductive Refusal where
  /-- An instruction whose arm is not modelled yet. Raised by `exec`. Safe. -/
  | notModelled (mnemonic : String)
  /-- A term that is no instruction of the hardware: a DD or FD fall-through of something else than a base
  instruction, which `Instr.wellFormed` excludes and no byte decodes to (30_encoding.md R137).
  Raised by the meanings of the two fall-through rows. Safe. -/
  | notABaseInstruction (i : Instr)
  deriving DecidableEq, Repr

/-- The parameters at reset: the spec's defaults (00_scope.md R7), for `REFRESH_POLICY`, which has none, the opaque
`Config.refreshPolicy` (log 3), and for `UNDOC_FLAG_POLICY` the simulator default (log 4). -/
def defaultParams : Params where
  nmiTStates := 11
  refresh := Config.refreshPolicy
  undocFlags := .exact
  edUndoc := .unimplemented
  ddfdUndoc := .unimplemented
  idxcbUndoc := .unimplemented
  nmiHaltResume := .afterHalt
  memModel := .ram
  outZero := 0

/-- The machine right after construction with the default specification, which ends with `reset()` (R530, R532).
Memory, the trace, the port answers and the draw counter are not the spec's reset values (log 1, 5, 6, 8). -/
def State.reset : State where
  a := 0
  f := Flags.zero
  b := 0
  c := 0
  d := 0
  e := 0
  h := 0
  l := 0
  a' := 0
  f' := Flags.zero
  b' := 0
  c' := 0
  d' := 0
  e' := 0
  h' := 0
  l' := 0
  ix := 0
  iy := 0
  sp := 0
  pc := 0
  i := 0
  r := 0
  iff1 := false
  iff2 := false
  halt := false
  eidi := false
  nmi := false
  blockMove := false
  im := .im0
  resetAddress := 0
  tStates := 0
  timing := defaultTables
  params := defaultParams
  mem := []
  trace := []
  ioIn := []
  draws := 0

end Sys2Proof.Machine
end

