-- ==== Sys2Proof/Machine/Flags.lean ====
section
/-! DEFINITION. The ALU primitives and their flags (spec/40_alu_flags.md R160 to R179): pure functions of the
operands and, where named, the current F. -/

namespace Sys2Proof.Machine

/-- Bit `k` of a byte. -/
def bit (v : Byte) (k : Nat) : Bool := v.getLsbD k

/-- `PARITY[v]`: true iff `v` has an even number of 1 bits (R161, 10_state.md R58). -/
def parity (v : Byte) : Bool :=
  !(bit v 0 ^^ bit v 1 ^^ bit v 2 ^^ bit v 3 ^^ bit v 4 ^^ bit v 5 ^^ bit v 6 ^^ bit v 7)

/-! ## Packing (R179) -/

/-- The flag byte: S Z F5 H F3 PV N C, bit 7 to bit 0 (10_state.md R40, R179). -/
def Flags.pack (f : Flags) : Byte :=
  BitVec.ofNat 8 (128 * f.s.toNat + 64 * f.z.toNat + 32 * f.f5.toNat + 16 * f.h.toNat + 8 * f.f3.toNat
    + 4 * f.pv.toNat + 2 * f.n.toNat + f.c.toNat)

/-- The flags of a flag byte (R179). -/
def Flags.unpack (v : Byte) : Flags where
  s := bit v 7
  z := bit v 6
  f5 := bit v 5
  h := bit v 4
  f3 := bit v 3
  pv := bit v 2
  n := bit v 1
  c := bit v 0

/-! ## The bits that `UNDOC_FLAG_POLICY` governs (00_scope.md R11) -/

/-- `exact` with the bits of `mask` taken from `drawn`. -/
def Flags.mix (mask exact drawn : Flags) : Flags where
  s := if mask.s then drawn.s else exact.s
  z := if mask.z then drawn.z else exact.z
  f5 := if mask.f5 then drawn.f5 else exact.f5
  h := if mask.h then drawn.h else exact.h
  f3 := if mask.f3 then drawn.f3 else exact.f3
  pv := if mask.pv then drawn.pv else exact.pv
  n := if mask.n then drawn.n else exact.n
  c := if mask.c then drawn.c else exact.c

/-- F5 and F3, the marked bits of every instruction but the block I/O ones. -/
def Flags.undocF53 : Flags := { Flags.zero with f5 := true, f3 := true }

/-- The marked bits of the block I/O instructions: all but Z and PV (43_block.md R297). -/
def Flags.undocBlockIo : Flags := ⟨true, false, true, true, true, false, true, true⟩

/-! ## 8-bit arithmetic (R162 to R164) -/

/-- `Add8(a, b, cin)` (R162). -/
def add8 (a b : Byte) (cin : Bool) : Byte × Flags :=
  let sum := a.toNat + b.toNat + cin.toNat
  let res := BitVec.ofNat 8 sum
  let signed : Int := a.toInt + b.toInt + cin.toNat
  (res,
    { s := bit res 7, z := res == 0, f5 := bit res 5,
      h := decide (16 ≤ a.toNat % 16 + b.toNat % 16 + cin.toNat),
      f3 := bit res 3, pv := decide (signed < -128 ∨ 127 < signed), n := false, c := decide (256 ≤ sum) })

/-- `Sub8(a, b, cin)` (R163). -/
def sub8 (a b : Byte) (cin : Bool) : Byte × Flags :=
  let diff : Int := a.toNat - b.toNat - cin.toNat
  let res := BitVec.ofInt 8 diff
  let nibble : Int := (a.toNat % 16 : Nat) - (b.toNat % 16 : Nat) - cin.toNat
  let signed : Int := a.toInt - b.toInt - cin.toNat
  (res,
    { s := bit res 7, z := res == 0, f5 := bit res 5, h := decide (nibble < 0),
      f3 := bit res 3, pv := decide (signed < -128 ∨ 127 < signed), n := true, c := decide (diff < 0) })

/-- `Cp8(a, b)`: the flags of a subtraction with F5 and F3 from the operand (R164). -/
def cp8 (a b : Byte) : Flags := { (sub8 a b false).2 with f5 := bit b 5, f3 := bit b 3 }

/-! ## 8-bit logic (R165 to R167) -/

/-- The flags of a logical result: parity in PV, N and C cleared, H as given. -/
def logicFlags (res : Byte) (h : Bool) : Flags :=
  { s := bit res 7, z := res == 0, f5 := bit res 5, h := h, f3 := bit res 3, pv := parity res,
    n := false, c := false }

/-- `And8(a, b)` (R165). -/
def and8 (a b : Byte) : Byte × Flags := (a &&& b, logicFlags (a &&& b) true)

/-- `Or8(a, b)` (R166). -/
def or8 (a b : Byte) : Byte × Flags := (a ||| b, logicFlags (a ||| b) false)

/-- `Xor8(a, b)` (R167). -/
def xor8 (a b : Byte) : Byte × Flags := (a ^^^ b, logicFlags (a ^^^ b) false)

/-- The result and flags of an accumulator operation on A and the operand (30_encoding.md R143, 44_alu8.md R321 to
R328); the result of CP is A itself. -/
def alu8 (op : AluOp) (a v : Byte) (f : Flags) : Byte × Flags :=
  match op with
  | .add => add8 a v false
  | .adc => add8 a v f.c
  | .sub => sub8 a v false
  | .sbc => sub8 a v f.c
  | .and => and8 a v
  | .xor => xor8 a v
  | .or => or8 a v
  | .cp => (a, cp8 a v)

/-! ## 8-bit increment and decrement (R168, R169) -/

/-- `Inc8(v)`; C preserved (R168). -/
def inc8 (v : Byte) (f : Flags) : Byte × Flags :=
  let res := v + 1
  (res,
    { s := bit res 7, z := res == 0, f5 := bit res 5, h := v.toNat % 16 == 15, f3 := bit res 3,
      pv := v == 0x7F, n := false, c := f.c })

/-- `Dec8(v)`; C preserved (R169). -/
def dec8 (v : Byte) (f : Flags) : Byte × Flags :=
  let res := v - 1
  (res,
    { s := bit res 7, z := res == 0, f5 := bit res 5, h := v.toNat % 16 == 0, f3 := bit res 3,
      pv := v == 0x80, n := true, c := f.c })

/-! ## 16-bit arithmetic (R170 to R172) -/

/-- `Add16(a, b)`; S, Z and PV preserved (R170). -/
def add16 (a b : Word) (f : Flags) : Word × Flags :=
  let sum := a.toNat + b.toNat
  let res := BitVec.ofNat 16 sum
  (res,
    { f with
      f5 := res.getLsbD 13, h := decide (4096 ≤ a.toNat % 4096 + b.toNat % 4096), f3 := res.getLsbD 11,
      n := false, c := decide (65536 ≤ sum) })

/-- `Adc16(a, b, cin)` (R171). -/
def adc16 (a b : Word) (cin : Bool) : Word × Flags :=
  let sum := a.toNat + b.toNat + cin.toNat
  let res := BitVec.ofNat 16 sum
  let signed : Int := a.toInt + b.toInt + cin.toNat
  (res,
    { s := res.getLsbD 15, z := res == 0, f5 := res.getLsbD 13,
      h := decide (4096 ≤ a.toNat % 4096 + b.toNat % 4096 + cin.toNat), f3 := res.getLsbD 11,
      pv := decide (signed < -32768 ∨ 32767 < signed), n := false, c := decide (65536 ≤ sum) })

/-- `Sbc16(a, b, cin)` (R172). -/
def sbc16 (a b : Word) (cin : Bool) : Word × Flags :=
  let diff : Int := a.toNat - b.toNat - cin.toNat
  let res := BitVec.ofInt 16 diff
  let low : Int := (a.toNat % 4096 : Nat) - (b.toNat % 4096 : Nat) - cin.toNat
  let signed : Int := a.toInt - b.toInt - cin.toNat
  (res,
    { s := res.getLsbD 15, z := res == 0, f5 := res.getLsbD 13, h := decide (low < 0), f3 := res.getLsbD 11,
      pv := decide (signed < -32768 ∨ 32767 < signed), n := true, c := decide (diff < 0) })

/-! ## Shifts and rotates (R173 to R175) -/

/-- The byte with this bit 7 and `v` shifted right under it. -/
def shiftRightIn (v : Byte) (top : Bool) : Byte := BitVec.ofNat 8 (128 * top.toNat + v.toNat / 2)

/-- The byte with this bit 0 and `v` shifted left over it. -/
def shiftLeftIn (v : Byte) (bottom : Bool) : Byte := BitVec.ofNat 8 (2 * v.toNat + bottom.toNat)

/-- `Shift(kind, v, cin)`: the result and the bit shifted out (R173). -/
def shift (k : Rot) (v : Byte) (cin : Bool) : Byte × Bool :=
  match k with
  | .rlc => (shiftLeftIn v (bit v 7), bit v 7)
  | .rrc => (shiftRightIn v (bit v 0), bit v 0)
  | .rl => (shiftLeftIn v cin, bit v 7)
  | .rr => (shiftRightIn v cin, bit v 0)
  | .sla => (shiftLeftIn v false, bit v 7)
  | .sra => (shiftRightIn v (bit v 7), bit v 0)
  | .sll => (shiftLeftIn v true, bit v 7)
  | .srl => (shiftRightIn v false, bit v 0)

/-- `ShiftFlags(res, cout)` (R174). -/
def shiftFlags (res : Byte) (cout : Bool) : Flags :=
  { s := bit res 7, z := res == 0, f5 := bit res 5, h := false, f3 := bit res 3, pv := parity res,
    n := false, c := cout }

/-- `RotAFlags(res, cout)`; S, Z and PV preserved (R175). -/
def rotAFlags (res : Byte) (cout : Bool) (f : Flags) : Flags :=
  { f with f5 := bit res 5, h := false, f3 := bit res 3, n := false, c := cout }

/-! ## Bit operations (R176, R177) -/

/-- `Bit(b, v)`; C preserved (R176). -/
def bitFlags (b : Fin 8) (v : Byte) (f : Flags) : Flags :=
  { s := b == 7 && bit v 7, z := !bit v b.val, f5 := bit v 5, h := true, f3 := bit v 3, pv := !bit v b.val,
    n := false, c := f.c }

/-- `1 << b`. -/
def bitMask (b : Fin 8) : Byte := BitVec.ofNat 8 (2 ^ b.val)

/-- `Res(b, v)` (R177). -/
def resBit (b : Fin 8) (v : Byte) : Byte := v &&& ~~~bitMask b

/-- `Set(b, v)` (R177). -/
def setBit (b : Fin 8) (v : Byte) : Byte := v ||| bitMask b

/-! ## Decimal adjust and the accumulator and carry controls (R178, 44_alu8.md R338 to R341) -/

/-- The correction of DAA (R178; decision D17). -/
def daaCorrection (a : Byte) (f : Flags) : Byte :=
  (if f.h || decide (9 < a.toNat % 16) then 0x06 else 0x00)
    ||| (if f.c || decide (0x99 < a.toNat) then 0x60 else 0x00)

/-- `Daa(a, F)` (R178). -/
def daa (a : Byte) (f : Flags) : Byte × Flags :=
  let corr := daaCorrection a f
  let r := if f.n then sub8 a corr false else add8 a corr false
  (r.1, { r.2 with c := f.c || decide (0x99 < a.toNat), pv := parity r.1 })

/-- The flags of CPL, F5 and F3 from the new A (44_alu8.md R338). -/
def cplFlags (res : Byte) (f : Flags) : Flags := { f with f5 := bit res 5, h := true, f3 := bit res 3, n := true }

/-- The flags of SCF (44_alu8.md R340). -/
def scfFlags (a : Byte) (f : Flags) : Flags :=
  { f with f5 := bit a 5, h := false, f3 := bit a 3, n := false, c := true }

/-- The flags of CCF: H takes the old carry (44_alu8.md R341). -/
def ccfFlags (a : Byte) (f : Flags) : Flags :=
  { f with f5 := bit a 5, h := f.c, f3 := bit a 3, n := false, c := !f.c }

/-! ## Flags that go with a transferred byte -/

/-- The flags of a byte read: H and N cleared, C preserved, PV as given (41_load8.md R218, R219: IFF2;
46_rotate_bit.md R397 and 48_io_cpu.md R461: parity). -/
def valueFlags (v : Byte) (pv : Bool) (f : Flags) : Flags :=
  { s := bit v 7, z := v == 0, f5 := bit v 5, h := false, f3 := bit v 3, pv := pv, n := false, c := f.c }

/-- The flags of a block load element that moved `t`; `more` is BC ≠ 0 (43_block.md R282). -/
def blockLoadFlags (a t : Byte) (more : Bool) (f : Flags) : Flags :=
  let u := a + t
  { f with f5 := bit u 1, h := false, f3 := bit u 3, pv := more, n := false }

/-- The flags of a block compare element with the byte `t`; `more` is BC ≠ 0 (43_block.md R286). -/
def blockCompareFlags (a t : Byte) (more : Bool) (f : Flags) : Flags :=
  let r := sub8 a t false
  let u := r.1 - BitVec.ofNat 8 r.2.h.toNat
  { f with s := r.2.s, z := r.2.z, f5 := bit u 1, h := r.2.h, f3 := bit u 3, pv := more, n := true }

/-- `IoFlags(t, k)`, with `b` the decremented B (43_block.md R297; decision D27). -/
def blockIoFlags (b t : Byte) (k : Nat) : Flags :=
  { s := bit b 7, z := b == 0, f5 := bit b 5, h := decide (255 < k), f3 := bit b 3, pv := b != 0,
    n := bit t 7, c := decide (255 < k) }

end Sys2Proof.Machine
end

