-- ==== Sys2Proof/Machine/Ops.lean ====
section
/-! DEFINITION. The operations on the state: memory and I/O accesses, the stack, the register views, charging,
and taking the interrupt with the return from it (spec/10_state.md, 20_memory.md, 60_exceptions.md,
70_reset_and_hazards.md). -/

namespace Sys2Proof.Machine

/-- The outcome of an instruction or a step. -/
abbrev Out := Host.Outcome State Fault Refusal

/-! ## Memory cells (20_memory.md R81, R87; log 1) -/

/-- What an unlisted cell reads as. DESIGN CHOICE (log 1), unsafe. -/
def Memory.unlisted : Byte := 0

/-- The byte at an address. -/
def Memory.read : Memory → Nat → Byte
  | [], _ => Memory.unlisted
  | (k, v) :: m, a => if k = a then v else Memory.read m a

/-- The cell `(a, v)` in front of later cells, left out where it would hold what an unlisted cell reads as. -/
def Memory.cons (a : Nat) (v : Byte) (m : Memory) : Memory := if v = Memory.unlisted then m else (a, v) :: m

/-- Memory with `v` at `a`, the listed addresses kept rising. -/
def Memory.write : Memory → Nat → Byte → Memory
  | [], a, v => Memory.cons a v []
  | (k, w) :: m, a, v =>
    if k < a then (k, w) :: Memory.write m a v
    else if k = a then Memory.cons a v m
    else Memory.cons a v ((k, w) :: m)

/-- Every listed address is at least `lo`, below 2^16, and rising, and no listed cell holds the unlisted byte. -/
def Memory.wfFrom (lo : Nat) : Memory → Bool
  | [] => true
  | (k, v) :: m => decide (lo ≤ k) && decide (k < 65536) && v != Memory.unlisted && Memory.wfFrom (k + 1) m

/-- The canonical form: strictly rising addresses of the address space, no entry equal to what an unlisted
address reads as. -/
def Memory.wf (m : Memory) : Bool := Memory.wfFrom 0 m

/-! ## Memory accesses (20_memory.md R80 to R88, R94) -/

/-- Record an access (R94). -/
def State.note (s : State) (ev : Event) : State := { s with trace := ev :: s.trace }

/-- `MemRead(a, 1)` as a value (R87). -/
def State.byteAt (s : State) (a : Word) : Byte :=
  match s.params.memModel with
  | .ram => Memory.read s.mem a.toNat
  | .collaborator => Config.memAnswer s.trace a

/-- `MemRead(a, 2)` as a value, little-endian and wrapping (R82, R83, R84). -/
def State.wordAt (s : State) (a : Word) : Word := Word.ofBytes (s.byteAt (a + 1)) (s.byteAt a)

/-- The state after `MemRead(a, 1)`. -/
def State.read8 (s : State) (a : Word) : State := s.note (.read8 a (s.byteAt a))

/-- The state after `MemRead(a, 2)`: one event (R94). -/
def State.read16 (s : State) (a : Word) : State := s.note (.read16 a (s.wordAt a))

/-- What a store of one byte does to memory; under `Collaborator` it has no defined effect (R87). -/
def State.storeByte (s : State) (a : Word) (v : Byte) : Memory :=
  match s.params.memModel with
  | .ram => Memory.write s.mem a.toNat v
  | .collaborator => s.mem

/-- What a store of a word does to memory (R82, R84). -/
def State.storeWord (s : State) (a : Word) (v : Word) : Memory :=
  match s.params.memModel with
  | .ram => Memory.write (Memory.write s.mem a.toNat (Word.lo v)) (a + 1).toNat (Word.hi v)
  | .collaborator => s.mem

/-- `MemWrite(a, 1, v)` (R87, R94). -/
def State.write8 (s : State) (a : Word) (v : Byte) : State :=
  { s with mem := s.storeByte a v, trace := .write8 a v :: s.trace }

/-- `MemWrite(a, 2, v)`: one event (R82, R84, R94). -/
def State.write16 (s : State) (a : Word) (v : Word) : State :=
  { s with mem := s.storeWord a v, trace := .write16 a v :: s.trace }

/-! ## The stack (20_memory.md R86) -/

/-- `Push16(v)` (R86). -/
def State.push16 (s : State) (v : Word) : State := { s with sp := s.sp - 2 }.write16 (s.sp - 2) v

/-- The value `Pop16()` returns (R86). -/
def State.popValue (s : State) : Word := s.wordAt s.sp

/-- The state after `Pop16()` (R86). -/
def State.afterPop (s : State) : State := { s.read16 s.sp with sp := s.sp + 2 }

/-! ## Ports (20_memory.md R89 to R92; log 6) -/

/-- The value of `IoRead(port)`: the collaborator's next ready answer, else its free answer (R91). -/
def State.ioValue (s : State) (port : Word) : Byte := s.ioIn.headD (Config.ioAnswer s.trace port)

/-- The state after `IoRead(port)` (R91, R94). -/
def State.ioRead (s : State) (port : Word) : State :=
  { s with ioIn := s.ioIn.tail, trace := .portIn port (s.ioValue port) :: s.trace }

/-- `IoWrite(port, v)`: a recorded event (R92). -/
def State.ioWrite (s : State) (port : Word) (v : Byte) : State := s.note (.portOut port v)

/-! ## Fetching (20_memory.md R99 to R101) -/

/-- The state after `FetchByte()` (R100). -/
def State.fetch (s : State) : State := { s.note (.fetch s.pc (s.byteAt s.pc)) with pc := s.pc + 1 }

/-- The bytes of `k` calls of `FetchByte()` (R100). -/
def State.fetchedBytes (s : State) : Nat → List Byte
  | 0 => []
  | k + 1 => s.byteAt s.pc :: s.fetch.fetchedBytes k

/-- The state after `k` calls of `FetchByte()` (R100). -/
def State.fetchMany (s : State) : Nat → State
  | 0 => s
  | k + 1 => s.fetch.fetchMany k

/-! ## Charging (70_reset_and_hazards.md R567, R568) and the refresh register (10_state.md R38) -/

/-- `Charge(n)` (10_state.md R50). -/
def State.charge (s : State) (n : Nat) : State := { s with tStates := s.tStates + n }

/-- The entry of a table (10_state.md R57). -/
def TimingTable.entry (t : TimingTable) (op : Byte) : Option Nat := t[op.toNat]'op.isLt

/-- `ChargeDelta(table, op)`; an unset delta charges 0 (R568; decision D7). -/
def State.chargeDelta (s : State) (table : TimingTable) (op : Byte) : State :=
  s.charge ((TimingTable.entry table op).getD 0)

/-- `R[7] ++ ((R[6:0] + k) mod 128)`. -/
def refreshBy (r : Byte) (k : Nat) : Byte := BitVec.ofNat 8 (r.toNat / 128 * 128 + (r.toNat % 128 + k) % 128)

/-- What `k` opcode-byte fetches do to R under the refresh policy (10_state.md R38; decision D12). -/
def State.bumpR (s : State) (k : Nat) : State :=
  { s with r := match s.params.refresh with
                | .static => s.r
                | .m1 => refreshBy s.r k }

/-! ## Flags with undocumented bits (00_scope.md R11; log 5) -/

/-- Write F where the bits of `mask` are the marked ones: exact under `Exact`, a fresh free value under `Draw`. -/
def State.setFlags (s : State) (mask f : Flags) : State :=
  match s.params.undocFlags with
  | .exact => { s with f := f }
  | .draw => { s with f := Flags.mix mask f (Flags.unpack (Config.freeFlags s.draws)), draws := s.draws + 1 }

/-! ## Registers and views (10_state.md R30 to R34) -/

/-- Read `reg8[k]` (30_encoding.md R116). -/
def State.getReg (s : State) : Reg8 → Byte
  | .b => s.b
  | .c => s.c
  | .d => s.d
  | .e => s.e
  | .h => s.h
  | .l => s.l
  | .a => s.a

/-- Write `reg8[k]` (30_encoding.md R116). -/
def State.setReg (s : State) (r : Reg8) (v : Byte) : State :=
  match r with
  | .b => { s with b := v }
  | .c => { s with c := v }
  | .d => { s with d := v }
  | .e => { s with e := v }
  | .h => { s with h := v }
  | .l => { s with l := v }
  | .a => { s with a := v }

/-- The view BC (10_state.md R32). -/
def State.bc (s : State) : Word := Word.ofBytes s.b s.c
/-- The view DE (10_state.md R32). -/
def State.de (s : State) : Word := Word.ofBytes s.d s.e
/-- The view HL (10_state.md R32). -/
def State.hl (s : State) : Word := Word.ofBytes s.h s.l
/-- The view AF (10_state.md R32). -/
def State.af (s : State) : Word := Word.ofBytes s.a s.f.pack

/-- Write the view BC (10_state.md R32). -/
def State.setBc (s : State) (v : Word) : State := { s with b := Word.hi v, c := Word.lo v }
/-- Write the view DE (10_state.md R32). -/
def State.setDe (s : State) (v : Word) : State := { s with d := Word.hi v, e := Word.lo v }
/-- Write the view HL (10_state.md R32). -/
def State.setHl (s : State) (v : Word) : State := { s with h := Word.hi v, l := Word.lo v }
/-- Write the view AF: all eight flags (10_state.md R32, R39). -/
def State.setAf (s : State) (v : Word) : State := { s with a := Word.hi v, f := Flags.unpack (Word.lo v) }

/-- Read `rp[p]` (30_encoding.md R117). -/
def State.getRp (s : State) : Rp → Word
  | .bc => s.bc
  | .de => s.de
  | .hl => s.hl
  | .sp => s.sp

/-- Write `rp[p]` (30_encoding.md R117). -/
def State.setRp (s : State) (p : Rp) (v : Word) : State :=
  match p with
  | .bc => s.setBc v
  | .de => s.setDe v
  | .hl => s.setHl v
  | .sp => { s with sp := v }

/-- Read `rp2[p]` (30_encoding.md R118). -/
def State.getRp2 (s : State) : Rp2 → Word
  | .bc => s.bc
  | .de => s.de
  | .hl => s.hl
  | .af => s.af

/-- Write `rp2[p]` (30_encoding.md R118). -/
def State.setRp2 (s : State) (q : Rp2) (v : Word) : State :=
  match q with
  | .bc => s.setBc v
  | .de => s.setDe v
  | .hl => s.setHl v
  | .af => s.setAf v

/-- Read the index register a DD or FD selects (30_encoding.md R111). -/
def State.getIdx (s : State) : Idx → Word
  | .ix => s.ix
  | .iy => s.iy

/-- Write the index register a DD or FD selects (30_encoding.md R111). -/
def State.setIdx (s : State) (x : Idx) (v : Word) : State :=
  match x with
  | .ix => { s with ix := v }
  | .iy => { s with iy := v }

/-- Read an index half (10_state.md R34). -/
def State.getHalf (s : State) (x : Idx) : Half → Byte
  | .high => Word.hi (s.getIdx x)
  | .low => Word.lo (s.getIdx x)

/-- Write an index half: the other half is unchanged (10_state.md R34). -/
def State.setHalf (s : State) (x : Idx) (k : Half) (v : Byte) : State :=
  match k with
  | .high => s.setIdx x (Word.ofBytes v (Word.lo (s.getIdx x)))
  | .low => s.setIdx x (Word.ofBytes (Word.hi (s.getIdx x)) v)

/-- Read `rp[p]` behind DD or FD, where HL means the index register (30_encoding.md R119 (a)). -/
def State.getRpXY (s : State) (x : Idx) : RpXY → Word
  | .bc => s.bc
  | .de => s.de
  | .xy => s.getIdx x
  | .sp => s.sp

/-! ## Taking the interrupt, and the return from it -/

/-- The NMI vector (20_memory.md R98; decision D10). -/
def nmiVector : Word := 0x0066

/-- The return address that an NMI acceptance pushes (60_exceptions.md R501; decision D18). -/
def State.nmiReturn (s : State) : Word :=
  if s.halt && s.params.nmiHaltResume == .afterHalt then s.pc + 1 else s.pc

/-- `AcceptNMI()` (60_exceptions.md R501). -/
def State.acceptNmi (s : State) : State :=
  let s1 := { s with nmi := false, halt := false, iff1 := false }
  let s2 := s1.push16 s.nmiReturn
  ({ s2 with pc := nmiVector }.charge s.params.nmiTStates).bumpR 1

/-- RETN and RETI: `PC <- Pop16(); IFF1 <- IFF2` (47_control.md R433, R434; decision D25). -/
def State.returnFromNmi (s : State) : State := { s.afterPop with pc := s.popValue, iff1 := s.iff2 }

end Sys2Proof.Machine
end

