-- ==== Sys2Proof/Machine/Operands.lean ====
section
/-! DEFINITION. The operand forms and the operations shared by the instructions of a shape
(spec/30_encoding.md R116 to R124, 43_block.md R280, 44_alu8.md R320, 46_rotate_bit.md R384, 47_control.md R420).
A meaning runs with PC past the whole instruction and its primary charge made; here stands what its pseudocode does
after that. -/

namespace Sys2Proof.Machine

/-! ## Conditions and addresses -/

/-- `cond(cc)` (30_encoding.md R120). -/
def Flags.cond (f : Flags) : Cond → Bool
  | .nz => !f.z
  | .z => f.z
  | .nc => !f.c
  | .c => f.c
  | .po => !f.pv
  | .pe => f.pv
  | .p => !f.s
  | .m => f.s

/-- `cond(cc)` of JR cc (30_encoding.md R120). -/
def Flags.jrCond (f : Flags) : JrCond → Bool
  | .nz => !f.z
  | .z => f.z
  | .nc => !f.c
  | .c => f.c

/-- `EA = (XY + sext_16(d)) mod 2^16` (30_encoding.md R122). -/
def State.ea (s : State) (x : Idx) (d : Byte) : Word := s.getIdx x + Byte.sext d

/-- The target of a relative transfer, from PC after the offset byte (30_encoding.md R123). -/
def State.relTarget (s : State) (e : Byte) : Word := s.pc + Byte.sext e

/-- The port of IN A,(n) and OUT (n),A: `A ++ n` (20_memory.md R90). -/
def State.immPort (s : State) (n : Byte) : Word := Word.ofBytes s.a n

/-! ## Loads through memory -/

/-- `reg8[y] <- MemRead(a, 1)` (41_load8.md R202, R205 to R207, R211). -/
def State.loadReg (s : State) (r : Reg8) (a : Word) : State := (s.read8 a).setReg r (s.byteAt a)

/-- `XY <- MemRead(a, 2)` (42_load16_exchange.md R244). -/
def State.loadIdx (s : State) (x : Idx) (a : Word) : State := (s.read16 a).setIdx x (s.wordAt a)

/-- `rp[p] <- MemRead(a, 2)` (42_load16_exchange.md R242, R243). -/
def State.loadRp (s : State) (p : Rp) (a : Word) : State := (s.read16 a).setRp p (s.wordAt a)

/-- `A <- v` with the flags of LD A,I and LD A,R; F5 and F3 are marked bits (41_load8.md R218, R219). -/
def State.loadAWithIff (s : State) (v : Byte) : State :=
  { s with a := v }.setFlags Flags.undocF53 (valueFlags v s.iff2 s.f)

/-! ## The accumulator group (44_alu8.md R320 to R328) -/

/-- `A <- A op v` with the flags of the operation (R321 to R328). -/
def State.accumulate (s : State) (op : AluOp) (v : Byte) : State :=
  { s with a := (alu8 op s.a v s.f).1, f := (alu8 op s.a v s.f).2 }

/-- The accumulator group with a memory operand, read once before the operation (R320). -/
def State.accumulateMem (s : State) (op : AluOp) (a : Word) : State := (s.read8 a).accumulate op (s.byteAt a)

/-! ## Read, modify, write: INC, DEC and the shifts, whose F5 and F3 are marked bits (R168, R169, R174) -/

/-- The register form (44_alu8.md R329, R333; 46_rotate_bit.md R384). -/
def State.modifyReg (s : State) (g : Byte → Flags → Byte × Flags) (r : Reg8) : State :=
  (s.setReg r (g (s.getReg r) s.f).1).setFlags Flags.undocF53 (g (s.getReg r) s.f).2

/-- The index-half form (44_alu8.md R332, R336). -/
def State.modifyHalf (s : State) (g : Byte → Flags → Byte × Flags) (x : Idx) (k : Half) : State :=
  (s.setHalf x k (g (s.getHalf x k) s.f).1).setFlags Flags.undocF53 (g (s.getHalf x k) s.f).2

/-- The memory form: read, then written, then the flags (44_alu8.md R330, R331, R334, R335; 46_rotate_bit.md
R384). -/
def State.modifyMem (s : State) (g : Byte → Flags → Byte × Flags) (a : Word) : State :=
  ((s.read8 a).write8 a (g (s.byteAt a) s.f).1).setFlags Flags.undocF53 (g (s.byteAt a) s.f).2

/-- A shift as a modification of a byte and F (46_rotate_bit.md R385 to R392). -/
def shiftByte (k : Rot) (v : Byte) (f : Flags) : Byte × Flags :=
  ((shift k v f.c).1, shiftFlags (shift k v f.c).1 (shift k v f.c).2)

/-- RLCA, RRCA, RLA, RRA (46_rotate_bit.md R380 to R383). -/
def State.rotateA (s : State) (k : Rot) : State :=
  { s with a := (shift k s.a s.f.c).1 }.setFlags Flags.undocF53
    (rotAFlags (shift k s.a s.f.c).1 (shift k s.a s.f.c).2 s.f)

/-! ## BIT, RES and SET (46_rotate_bit.md R393 to R396) -/

/-- `F <- Bit(b, v)` (R393). -/
def State.testBit (s : State) (b : Fin 8) (v : Byte) : State := { s with f := bitFlags b v s.f }

/-- BIT of a memory operand (R393). -/
def State.testBitMem (s : State) (b : Fin 8) (a : Word) : State := (s.read8 a).testBit b (s.byteAt a)

/-- RES and SET of a register (R394, R395). -/
def State.mapReg (s : State) (g : Byte → Byte) (r : Reg8) : State := s.setReg r (g (s.getReg r))

/-- RES and SET of a memory operand: read, then written (R394, R395). -/
def State.mapMem (s : State) (g : Byte → Byte) (a : Word) : State := (s.read8 a).write8 a (g (s.byteAt a))

/-- A shift of `(XY+d)` with the result copied to a register (R396). -/
def State.modifyMemCopy (s : State) (g : Byte → Flags → Byte × Flags) (a : Word) (r : Reg8) : State :=
  (((s.read8 a).write8 a (g (s.byteAt a) s.f).1).setReg r (g (s.byteAt a) s.f).1).setFlags Flags.undocF53
    (g (s.byteAt a) s.f).2

/-- RES and SET of `(XY+d)` with the result copied to a register (R396). -/
def State.mapMemCopy (s : State) (g : Byte → Byte) (a : Word) (r : Reg8) : State :=
  ((s.read8 a).write8 a (g (s.byteAt a))).setReg r (g (s.byteAt a))

/-! ## 16-bit arithmetic (45_alu16.md R360 to R363) -/

/-- `HL <- res; F <- f` of a 16-bit operation; F5 and F3 are marked bits (R170 to R172). -/
def State.putHl16 (s : State) (x : Word × Flags) : State := (s.setHl x.1).setFlags Flags.undocF53 x.2

/-- ADD XY,rr (R361). -/
def State.addIdx (s : State) (x : Idx) (v : Word) : State :=
  (s.setIdx x (add16 (s.getIdx x) v s.f).1).setFlags Flags.undocF53 (add16 (s.getIdx x) v s.f).2

/-! ## Control transfer (47_control.md) -/

/-- A taken conditional transfer: PC and the delta of the opcode (R420). -/
def State.branch (s : State) (target : Word) (op : Byte) : State :=
  { s with pc := target }.chargeDelta s.timing.baseAlt op

/-- `Push16(PC); PC <- target` (R428, R432). -/
def State.call (s : State) (target : Word) : State := { s.push16 s.pc with pc := target }

/-- `PC <- Pop16()` (R430). -/
def State.ret (s : State) : State := { s.afterPop with pc := s.popValue }

/-- `v <- MemRead(SP, 2); MemWrite(SP, 2, x)`: the state after the two accesses of EX (SP),x
(42_load16_exchange.md R261, R264). -/
def State.swapTop (s : State) (x : Word) : State := (s.read16 s.sp).write16 s.sp x

/-! ## Block instructions (43_block.md) -/

/-- The direction of a block instruction, `+1` or `-1` on a pointer. -/
def blockStep : Bool → Word
  | true => 1
  | false => -1

/-- `LdElem(+1)` and `LdElem(-1)` (R282, R283). -/
def State.ldElem (s : State) (up : Bool) : State :=
  let t := s.byteAt s.hl
  let s1 := (s.read8 s.hl).write8 s.de t
  let s2 := ((s1.setHl (s.hl + blockStep up)).setDe (s.de + blockStep up)).setBc (s.bc - 1)
  s2.setFlags Flags.undocF53 (blockLoadFlags s.a t (s.bc - 1 != 0) s.f)

/-- `CpElem(+1)` and `CpElem(-1)` (R286, R287). -/
def State.cpElem (s : State) (up : Bool) : State :=
  let t := s.byteAt s.hl
  let s1 := ((s.read8 s.hl).setHl (s.hl + blockStep up)).setBc (s.bc - 1)
  s1.setFlags Flags.undocF53 (blockCompareFlags s.a t (s.bc - 1 != 0) s.f)

/-- `C + 1` or `C - 1` of the flag sum of an input element, modulo 256 (R290, R291). -/
def inSum (t c : Byte) (up : Bool) : Nat := t.toNat + (if up then c + 1 else c - 1).toNat

/-- `InElem(+1)` and `InElem(-1)`; the port is BC before B is decremented (R290, R291). -/
def State.inElem (s : State) (up : Bool) : State :=
  let t := s.ioValue s.bc
  let s1 := (s.ioRead s.bc).write8 s.hl t
  let s2 := { s1 with b := s.b - 1 }.setHl (s.hl + blockStep up)
  s2.setFlags Flags.undocBlockIo (blockIoFlags (s.b - 1) t (inSum t s.c up))

/-- `OutElem(+1)` and `OutElem(-1)`; the port is BC after B is decremented, L that after the pointer step
(R294, R295). -/
def State.outElem (s : State) (up : Bool) : State :=
  let t := s.byteAt s.hl
  let s1 := { s.read8 s.hl with b := s.b - 1 }
  let s2 := (s1.ioWrite s1.bc t).setHl (s.hl + blockStep up)
  s2.setFlags Flags.undocBlockIo (blockIoFlags s2.b t (t.toNat + s2.l.toNat))

/-- `Continue()` of LDIR and LDDR (R284, R285). -/
def contLoad (s : State) : Bool := s.bc != 0

/-- `Continue()` of CPIR and CPDR (R288, R289). -/
def contCompare (s : State) : Bool := s.bc != 0 && !s.f.z

/-- `Continue()` of INIR, INDR, OTIR and OTDR (R292, R293, R296, R298). -/
def contIo (s : State) : Bool := s.b != 0

/-- The loop of a repeating block instruction; no instruction runs more than 65536 elements (R280, R281). -/
def blockLoop (elem : State → State) (cont : State → Bool) (op : Byte) : Nat → State → State
  | 0, s => s
  | k + 1, s =>
    let s1 := elem s
    if cont s1 then blockLoop elem cont op k ((s1.chargeDelta s1.timing.edAlt op).bumpR 2) else s1

/-- A repeating block instruction, all its elements inside one step (R280; log 15, 16). -/
def State.repeatBlock (s : State) (elem : State → State) (cont : State → Bool) (op : Byte) : State :=
  { blockLoop elem cont op 65536 { s with blockMove := true } with blockMove := false }

end Sys2Proof.Machine
end

