-- ==== Sys2Proof/Machine/Block.lean ====
section
/-! DEFINITION. The block transfer, compare and I/O instructions (spec/43_block.md R280 to R298). -/

namespace Sys2Proof.Machine

/-- LDI (R282). -/
def execLdi (s : State) : Out := .next (s.ldElem true)

/-- CPI (R286). -/
def execCpi (s : State) : Out := .next (s.cpElem true)

/-- INI (R290). -/
def execIni (s : State) : Out := .next (s.inElem true)

/-- OUTI (R294). -/
def execOuti (s : State) : Out := .next (s.outElem true)

/-- LDD (R283). -/
def execLdd (s : State) : Out := .next (s.ldElem false)

/-- CPD (R287). -/
def execCpd (s : State) : Out := .next (s.cpElem false)

/-- IND (R291). -/
def execInd (s : State) : Out := .next (s.inElem false)

/-- OUTD (R295). -/
def execOutd (s : State) : Out := .next (s.outElem false)

/-- LDIR (R284). -/
def execLdir (s : State) : Out := .next (s.repeatBlock (fun t => t.ldElem true) contLoad 0xB0)

/-- CPIR (R288). -/
def execCpir (s : State) : Out := .next (s.repeatBlock (fun t => t.cpElem true) contCompare 0xB1)

/-- INIR (R292). -/
def execInir (s : State) : Out := .next (s.repeatBlock (fun t => t.inElem true) contIo 0xB2)

/-- OTIR (R296). -/
def execOtir (s : State) : Out := .next (s.repeatBlock (fun t => t.outElem true) contIo 0xB3)

/-- LDDR (R285). -/
def execLddr (s : State) : Out := .next (s.repeatBlock (fun t => t.ldElem false) contLoad 0xB8)

/-- CPDR (R289). -/
def execCpdr (s : State) : Out := .next (s.repeatBlock (fun t => t.cpElem false) contCompare 0xB9)

/-- INDR (R293). -/
def execIndr (s : State) : Out := .next (s.repeatBlock (fun t => t.inElem false) contIo 0xBA)

/-- OTDR (R298). -/
def execOtdr (s : State) : Out := .next (s.repeatBlock (fun t => t.outElem false) contIo 0xBB)

end Sys2Proof.Machine
end

