-- ==== Sys2Proof/Machine/Alu16.lean ====
section
/-! DEFINITION. 16-bit arithmetic (spec/45_alu16.md R360 to R367). -/

namespace Sys2Proof.Machine

/-- ADD HL,rr (R360). -/
def execAddHLRp (p : Rp) (s : State) : Out := .next (s.putHl16 (add16 s.hl (s.getRp p) s.f))

/-- INC rr (R364). -/
def execIncRp (p : Rp) (s : State) : Out := .next (s.setRp p (s.getRp p + 1))

/-- DEC rr (R365). -/
def execDecRp (p : Rp) (s : State) : Out := .next (s.setRp p (s.getRp p - 1))

/-- SBC HL,rr (R363). -/
def execSbcHLRp (p : Rp) (s : State) : Out := .next (s.putHl16 (sbc16 s.hl (s.getRp p) s.f.c))

/-- ADC HL,rr (R362). -/
def execAdcHLRp (p : Rp) (s : State) : Out := .next (s.putHl16 (adc16 s.hl (s.getRp p) s.f.c))

/-- ADD IX,rr (R361). -/
def execAddIXRp (p : RpXY) (s : State) : Out := .next (s.addIdx .ix (s.getRpXY .ix p))

/-- INC IX (R366). -/
def execIncIX (s : State) : Out := .next (s.setIdx .ix (s.getIdx .ix + 1))

/-- DEC IX (R367). -/
def execDecIX (s : State) : Out := .next (s.setIdx .ix (s.getIdx .ix - 1))

/-- ADD IY,rr (R361). -/
def execAddIYRp (p : RpXY) (s : State) : Out := .next (s.addIdx .iy (s.getRpXY .iy p))

/-- INC IY (R366). -/
def execIncIY (s : State) : Out := .next (s.setIdx .iy (s.getIdx .iy + 1))

/-- DEC IY (R367). -/
def execDecIY (s : State) : Out := .next (s.setIdx .iy (s.getIdx .iy - 1))

end Sys2Proof.Machine
end

