-- ==== Sys2Proof/Machine/Alu8.lean ====
section
/-! DEFINITION. 8-bit arithmetic and logic (spec/44_alu8.md R320 to R341). -/

namespace Sys2Proof.Machine

/-- INC r (R329). -/
def execIncR (r : Reg8) (s : State) : Out := .next (s.modifyReg inc8 r)

/-- INC (HL) (R330). -/
def execIncMhl (s : State) : Out := .next (s.modifyMem inc8 s.hl)

/-- DEC r (R333). -/
def execDecR (r : Reg8) (s : State) : Out := .next (s.modifyReg dec8 r)

/-- DEC (HL) (R334). -/
def execDecMhl (s : State) : Out := .next (s.modifyMem dec8 s.hl)

/-- DAA (R337). -/
def execDaa (s : State) : Out := .next { s with a := (daa s.a s.f).1, f := (daa s.a s.f).2 }

/-- CPL (R338). -/
def execCpl (s : State) : Out := .next ({ s with a := ~~~s.a }.setFlags Flags.undocF53 (cplFlags (~~~s.a) s.f))

/-- SCF (R340). -/
def execScf (s : State) : Out := .next (s.setFlags Flags.undocF53 (scfFlags s.a s.f))

/-- CCF (R341). -/
def execCcf (s : State) : Out := .next (s.setFlags Flags.undocF53 (ccfFlags s.a s.f))

/-- ADD A,r (R321). -/
def execAddR (r : Reg8) (s : State) : Out := .next (s.accumulate .add (s.getReg r))

/-- ADD A,(HL) (R321). -/
def execAddMhl (s : State) : Out := .next (s.accumulateMem .add s.hl)

/-- ADD A,n (R321). -/
def execAddN (n : Byte) (s : State) : Out := .next (s.accumulate .add n)

/-- ADC A,r (R322). -/
def execAdcR (r : Reg8) (s : State) : Out := .next (s.accumulate .adc (s.getReg r))

/-- ADC A,(HL) (R322). -/
def execAdcMhl (s : State) : Out := .next (s.accumulateMem .adc s.hl)

/-- ADC A,n (R322). -/
def execAdcN (n : Byte) (s : State) : Out := .next (s.accumulate .adc n)

/-- SUB r (R323). -/
def execSubR (r : Reg8) (s : State) : Out := .next (s.accumulate .sub (s.getReg r))

/-- SUB (HL) (R323). -/
def execSubMhl (s : State) : Out := .next (s.accumulateMem .sub s.hl)

/-- SUB n (R323). -/
def execSubN (n : Byte) (s : State) : Out := .next (s.accumulate .sub n)

/-- SBC A,r (R324). -/
def execSbcR (r : Reg8) (s : State) : Out := .next (s.accumulate .sbc (s.getReg r))

/-- SBC A,(HL) (R324). -/
def execSbcMhl (s : State) : Out := .next (s.accumulateMem .sbc s.hl)

/-- SBC A,n (R324). -/
def execSbcN (n : Byte) (s : State) : Out := .next (s.accumulate .sbc n)

/-- AND r (R325). -/
def execAndR (r : Reg8) (s : State) : Out := .next (s.accumulate .and (s.getReg r))

/-- AND (HL) (R325). -/
def execAndMhl (s : State) : Out := .next (s.accumulateMem .and s.hl)

/-- AND n (R325). -/
def execAndN (n : Byte) (s : State) : Out := .next (s.accumulate .and n)

/-- XOR r (R326). -/
def execXorR (r : Reg8) (s : State) : Out := .next (s.accumulate .xor (s.getReg r))

/-- XOR (HL) (R326). -/
def execXorMhl (s : State) : Out := .next (s.accumulateMem .xor s.hl)

/-- XOR n (R326). -/
def execXorN (n : Byte) (s : State) : Out := .next (s.accumulate .xor n)

/-- OR r (R327). -/
def execOrR (r : Reg8) (s : State) : Out := .next (s.accumulate .or (s.getReg r))

/-- OR (HL) (R327). -/
def execOrMhl (s : State) : Out := .next (s.accumulateMem .or s.hl)

/-- OR n (R327). -/
def execOrN (n : Byte) (s : State) : Out := .next (s.accumulate .or n)

/-- CP r (R328). -/
def execCpR (r : Reg8) (s : State) : Out := .next (s.accumulate .cp (s.getReg r))

/-- CP (HL) (R328). -/
def execCpMhl (s : State) : Out := .next (s.accumulateMem .cp s.hl)

/-- CP n (R328). -/
def execCpN (n : Byte) (s : State) : Out := .next (s.accumulate .cp n)

/-- NEG (R339). -/
def execNeg (s : State) : Out := .next { s with a := (sub8 0 s.a false).1, f := (sub8 0 s.a false).2 }

/-- NEG (alias) (R339) behind `ED_UNDOC`. -/
def execNegAlias (_y : Fin 8) (s : State) : Out :=
  .next { s with a := (sub8 0 s.a false).1, f := (sub8 0 s.a false).2 }

/-- INC IXH (R332). -/
def execIncIXH (s : State) : Out := .next (s.modifyHalf inc8 .ix .high)

/-- DEC IXH (R336). -/
def execDecIXH (s : State) : Out := .next (s.modifyHalf dec8 .ix .high)

/-- INC IXL (R332). -/
def execIncIXL (s : State) : Out := .next (s.modifyHalf inc8 .ix .low)

/-- DEC IXL (R336). -/
def execDecIXL (s : State) : Out := .next (s.modifyHalf dec8 .ix .low)

/-- INC (IX+d) (R331). -/
def execIncMixd (d : Byte) (s : State) : Out := .next (s.modifyMem inc8 (s.ea .ix d))

/-- DEC (IX+d) (R335). -/
def execDecMixd (d : Byte) (s : State) : Out := .next (s.modifyMem dec8 (s.ea .ix d))

/-- ADD A,(IX+d) (R321). -/
def execAddMixd (d : Byte) (s : State) : Out := .next (s.accumulateMem .add (s.ea .ix d))

/-- ADD A,IXH (R321). -/
def execAddIXH (s : State) : Out := .next (s.accumulate .add (s.getHalf .ix .high))

/-- ADD A,IXL (R321). -/
def execAddIXL (s : State) : Out := .next (s.accumulate .add (s.getHalf .ix .low))

/-- ADC A,(IX+d) (R322). -/
def execAdcMixd (d : Byte) (s : State) : Out := .next (s.accumulateMem .adc (s.ea .ix d))

/-- ADC A,IXH (R322). -/
def execAdcIXH (s : State) : Out := .next (s.accumulate .adc (s.getHalf .ix .high))

/-- ADC A,IXL (R322). -/
def execAdcIXL (s : State) : Out := .next (s.accumulate .adc (s.getHalf .ix .low))

/-- SUB (IX+d) (R323). -/
def execSubMixd (d : Byte) (s : State) : Out := .next (s.accumulateMem .sub (s.ea .ix d))

/-- SUB IXH (R323). -/
def execSubIXH (s : State) : Out := .next (s.accumulate .sub (s.getHalf .ix .high))

/-- SUB IXL (R323). -/
def execSubIXL (s : State) : Out := .next (s.accumulate .sub (s.getHalf .ix .low))

/-- SBC A,(IX+d) (R324). -/
def execSbcMixd (d : Byte) (s : State) : Out := .next (s.accumulateMem .sbc (s.ea .ix d))

/-- SBC A,IXH (R324). -/
def execSbcIXH (s : State) : Out := .next (s.accumulate .sbc (s.getHalf .ix .high))

/-- SBC A,IXL (R324). -/
def execSbcIXL (s : State) : Out := .next (s.accumulate .sbc (s.getHalf .ix .low))

/-- AND (IX+d) (R325). -/
def execAndMixd (d : Byte) (s : State) : Out := .next (s.accumulateMem .and (s.ea .ix d))

/-- AND IXH (R325). -/
def execAndIXH (s : State) : Out := .next (s.accumulate .and (s.getHalf .ix .high))

/-- AND IXL (R325). -/
def execAndIXL (s : State) : Out := .next (s.accumulate .and (s.getHalf .ix .low))

/-- XOR (IX+d) (R326). -/
def execXorMixd (d : Byte) (s : State) : Out := .next (s.accumulateMem .xor (s.ea .ix d))

/-- XOR IXH (R326). -/
def execXorIXH (s : State) : Out := .next (s.accumulate .xor (s.getHalf .ix .high))

/-- XOR IXL (R326). -/
def execXorIXL (s : State) : Out := .next (s.accumulate .xor (s.getHalf .ix .low))

/-- OR (IX+d) (R327). -/
def execOrMixd (d : Byte) (s : State) : Out := .next (s.accumulateMem .or (s.ea .ix d))

/-- OR IXH (R327). -/
def execOrIXH (s : State) : Out := .next (s.accumulate .or (s.getHalf .ix .high))

/-- OR IXL (R327). -/
def execOrIXL (s : State) : Out := .next (s.accumulate .or (s.getHalf .ix .low))

/-- CP (IX+d) (R328). -/
def execCpMixd (d : Byte) (s : State) : Out := .next (s.accumulateMem .cp (s.ea .ix d))

/-- CP IXH (R328). -/
def execCpIXH (s : State) : Out := .next (s.accumulate .cp (s.getHalf .ix .high))

/-- CP IXL (R328). -/
def execCpIXL (s : State) : Out := .next (s.accumulate .cp (s.getHalf .ix .low))

/-- INC IYH (R332). -/
def execIncIYH (s : State) : Out := .next (s.modifyHalf inc8 .iy .high)

/-- DEC IYH (R336). -/
def execDecIYH (s : State) : Out := .next (s.modifyHalf dec8 .iy .high)

/-- INC IYL (R332). -/
def execIncIYL (s : State) : Out := .next (s.modifyHalf inc8 .iy .low)

/-- DEC IYL (R336). -/
def execDecIYL (s : State) : Out := .next (s.modifyHalf dec8 .iy .low)

/-- INC (IY+d) (R331). -/
def execIncMiyd (d : Byte) (s : State) : Out := .next (s.modifyMem inc8 (s.ea .iy d))

/-- DEC (IY+d) (R335). -/
def execDecMiyd (d : Byte) (s : State) : Out := .next (s.modifyMem dec8 (s.ea .iy d))

/-- ADD A,(IY+d) (R321). -/
def execAddMiyd (d : Byte) (s : State) : Out := .next (s.accumulateMem .add (s.ea .iy d))

/-- ADD A,IYH (R321). -/
def execAddIYH (s : State) : Out := .next (s.accumulate .add (s.getHalf .iy .high))

/-- ADD A,IYL (R321). -/
def execAddIYL (s : State) : Out := .next (s.accumulate .add (s.getHalf .iy .low))

/-- ADC A,(IY+d) (R322). -/
def execAdcMiyd (d : Byte) (s : State) : Out := .next (s.accumulateMem .adc (s.ea .iy d))

/-- ADC A,IYH (R322). -/
def execAdcIYH (s : State) : Out := .next (s.accumulate .adc (s.getHalf .iy .high))

/-- ADC A,IYL (R322). -/
def execAdcIYL (s : State) : Out := .next (s.accumulate .adc (s.getHalf .iy .low))

/-- SUB (IY+d) (R323). -/
def execSubMiyd (d : Byte) (s : State) : Out := .next (s.accumulateMem .sub (s.ea .iy d))

/-- SUB IYH (R323). -/
def execSubIYH (s : State) : Out := .next (s.accumulate .sub (s.getHalf .iy .high))

/-- SUB IYL (R323). -/
def execSubIYL (s : State) : Out := .next (s.accumulate .sub (s.getHalf .iy .low))

/-- SBC A,(IY+d) (R324). -/
def execSbcMiyd (d : Byte) (s : State) : Out := .next (s.accumulateMem .sbc (s.ea .iy d))

/-- SBC A,IYH (R324). -/
def execSbcIYH (s : State) : Out := .next (s.accumulate .sbc (s.getHalf .iy .high))

/-- SBC A,IYL (R324). -/
def execSbcIYL (s : State) : Out := .next (s.accumulate .sbc (s.getHalf .iy .low))

/-- AND (IY+d) (R325). -/
def execAndMiyd (d : Byte) (s : State) : Out := .next (s.accumulateMem .and (s.ea .iy d))

/-- AND IYH (R325). -/
def execAndIYH (s : State) : Out := .next (s.accumulate .and (s.getHalf .iy .high))

/-- AND IYL (R325). -/
def execAndIYL (s : State) : Out := .next (s.accumulate .and (s.getHalf .iy .low))

/-- XOR (IY+d) (R326). -/
def execXorMiyd (d : Byte) (s : State) : Out := .next (s.accumulateMem .xor (s.ea .iy d))

/-- XOR IYH (R326). -/
def execXorIYH (s : State) : Out := .next (s.accumulate .xor (s.getHalf .iy .high))

/-- XOR IYL (R326). -/
def execXorIYL (s : State) : Out := .next (s.accumulate .xor (s.getHalf .iy .low))

/-- OR (IY+d) (R327). -/
def execOrMiyd (d : Byte) (s : State) : Out := .next (s.accumulateMem .or (s.ea .iy d))

/-- OR IYH (R327). -/
def execOrIYH (s : State) : Out := .next (s.accumulate .or (s.getHalf .iy .high))

/-- OR IYL (R327). -/
def execOrIYL (s : State) : Out := .next (s.accumulate .or (s.getHalf .iy .low))

/-- CP (IY+d) (R328). -/
def execCpMiyd (d : Byte) (s : State) : Out := .next (s.accumulateMem .cp (s.ea .iy d))

/-- CP IYH (R328). -/
def execCpIYH (s : State) : Out := .next (s.accumulate .cp (s.getHalf .iy .high))

/-- CP IYL (R328). -/
def execCpIYL (s : State) : Out := .next (s.accumulate .cp (s.getHalf .iy .low))

end Sys2Proof.Machine
end

