-- ==== Sys2Proof/Machine/Control.lean ====
section
/-! DEFINITION. Control transfer (spec/47_control.md R420 to R434). -/

namespace Sys2Proof.Machine

/-- DJNZ e (R425). -/
def execDjnz (e : Byte) (s : State) : Out :=
  let s1 := { s with b := s.b - 1 }
  .next (if s1.b != 0 then s1.branch (s.relTarget e) 0x10 else s1)

/-- JR e (R423). -/
def execJr (e : Byte) (s : State) : Out := .next { s with pc := s.relTarget e }

/-- JR cc,e (R424). -/
def execJrCc (jc : JrCond) (e : Byte) (s : State) : Out :=
  .next (if s.f.jrCond jc then s.branch (s.relTarget e) (opXYZ 0 jc.field 0) else s)

/-- RET cc (R431). -/
def execRetCc (cc : Cond) (s : State) : Out :=
  .next (if s.f.cond cc then s.ret.branch s.popValue (opXYZ 3 cc.field 0) else s)

/-- RET (R430). -/
def execRet (s : State) : Out := .next s.ret

/-- JP (HL) (R426), no memory read. -/
def execJpHL (s : State) : Out := .next { s with pc := s.hl }

/-- JP nn (R421). -/
def execJpNn (nn : Word) (s : State) : Out := .next { s with pc := nn }

/-- CALL nn (R428). -/
def execCallNn (nn : Word) (s : State) : Out := .next (s.call nn)

/-- JP cc,nn (R422). -/
def execJpCcNn (cc : Cond) (nn : Word) (s : State) : Out :=
  .next (if s.f.cond cc then s.branch nn (opXYZ 3 cc.field 2) else s)

/-- CALL cc,nn (R429). -/
def execCallCcNn (cc : Cond) (nn : Word) (s : State) : Out :=
  .next (if s.f.cond cc then (s.call nn).branch nn (opXYZ 3 cc.field 4) else s)

/-- RST p (R432). -/
def execRst (k : Fin 8) (s : State) : Out := .next (s.call (BitVec.ofNat 16 (8 * k.val)))

/-- RETN (R433). -/
def execRetn (s : State) : Out := .next s.returnFromNmi

/-- RETI (R434). -/
def execReti (s : State) : Out := .next s.returnFromNmi

/-- RETN (alias) (R433) behind `ED_UNDOC`. -/
def execRetnAlias (_y : Fin 8) (s : State) : Out := .next s.returnFromNmi

/-- JP (IX) (R427). -/
def execJpIX (s : State) : Out := .next { s with pc := s.getIdx .ix }

/-- JP (IY) (R427). -/
def execJpIY (s : State) : Out := .next { s with pc := s.getIdx .iy }

end Sys2Proof.Machine
end

