-- ==== Sys2Proof/Machine/IoCpu.lean ====
section
/-! DEFINITION. Input and output, and CPU control (spec/48_io_cpu.md R460 to R479). -/

namespace Sys2Proof.Machine

/-- NOP (R470). -/
def execNop (s : State) : Out := .next s

/-- HALT (R474) (decision D30). -/
def execHalt (s : State) : Out := .next { s with halt := true, pc := s.pc - 1 }

/-- OUT (n),A (R463). -/
def execOutNA (n : Byte) (s : State) : Out := .next (s.ioWrite (s.immPort n) s.a)

/-- IN A,(n) (R460). -/
def execInAN (n : Byte) (s : State) : Out := .next ((s.ioRead (s.immPort n)).setReg .a (s.ioValue (s.immPort n)))

/-- DI (R475). -/
def execDi (s : State) : Out := .next { s with iff1 := false, iff2 := false, eidi := true }

/-- EI (R476). -/
def execEi (s : State) : Out := .next { s with iff1 := true, iff2 := true, eidi := true }

/-- IN r,(C) (R461). -/
def execInRC (r : Reg8) (s : State) : Out :=
  .next (((s.ioRead s.bc).setReg r (s.ioValue s.bc)).setFlags Flags.undocF53
    (valueFlags (s.ioValue s.bc) (parity (s.ioValue s.bc)) s.f))

/-- IN F,(C) (R462). -/
def execInFC (s : State) : Out :=
  .next ((s.ioRead s.bc).setFlags Flags.undocF53 (valueFlags (s.ioValue s.bc) (parity (s.ioValue s.bc)) s.f))

/-- OUT (C),r (R464). -/
def execOutCR (r : Reg8) (s : State) : Out := .next (s.ioWrite s.bc (s.getReg r))

/-- OUT (C),0 (R465) (log 17). -/
def execOutC0 (s : State) : Out := .next (s.ioWrite s.bc s.params.outZero)

/-- IM 0 (R477). -/
def execIm0 (s : State) : Out := .next { s with im := .im0 }

/-- IM 1 (R478). -/
def execIm1 (s : State) : Out := .next { s with im := .im1 }

/-- IM 2 (R479). -/
def execIm2 (s : State) : Out := .next { s with im := .im2 }

/-- IM 0 (alias) (R477). -/
def execIm0Alias (_y : Fin 8) (s : State) : Out := .next { s with im := .im0 }

/-- IM 1 (alias) (R478). -/
def execIm1Alias (s : State) : Out := .next { s with im := .im1 }

/-- IM 2 (alias) (R479). -/
def execIm2Alias (s : State) : Out := .next { s with im := .im2 }

end Sys2Proof.Machine
end

