-- ==== Sys2Proof/Machine/Load16.lean ====
section
/-! DEFINITION. The 16-bit loads, the stack and the exchanges (spec/42_load16_exchange.md R240 to R264). -/

namespace Sys2Proof.Machine

/-- EX AF,AF' (R262). -/
def execExAfAf (s : State) : Out := .next { s with a := s.a', f := s.f', a' := s.a, f' := s.f }

/-- LD rr,nn (R240). -/
def execLdRpNn (p : Rp) (nn : Word) (s : State) : Out := .next (s.setRp p nn)

/-- LD (nn),HL (R245). -/
def execLdMnnHL (nn : Word) (s : State) : Out := .next (s.write16 nn s.hl)

/-- LD HL,(nn) (R242). -/
def execLdHLMnn (nn : Word) (s : State) : Out := .next (s.loadRp .hl nn)

/-- POP qq (R252). -/
def execPopQq (q : Rp2) (s : State) : Out := .next (s.afterPop.setRp2 q s.popValue)

/-- PUSH qq (R250). -/
def execPushQq (q : Rp2) (s : State) : Out := .next (s.push16 (s.getRp2 q))

/-- EXX (R263). -/
def execExx (s : State) : Out :=
  .next { s with b := s.b', c := s.c', d := s.d', e := s.e', h := s.h', l := s.l',
                 b' := s.b, c' := s.c, d' := s.d, e' := s.e, h' := s.h, l' := s.l }

/-- LD SP,HL (R248). -/
def execLdSpHL (s : State) : Out := .next { s with sp := s.hl }

/-- EX (SP),HL (R261). -/
def execExSpHL (s : State) : Out := .next ((s.swapTop s.hl).setHl (s.wordAt s.sp))

/-- EX DE,HL (R260). -/
def execExDeHL (s : State) : Out := .next ((s.setDe s.hl).setHl s.de)

/-- LD (nn),rr (R246). -/
def execLdMnnRp (p : Rp) (nn : Word) (s : State) : Out := .next (s.write16 nn (s.getRp p))

/-- LD rr,(nn) (R243). -/
def execLdRpMnn (p : Rp) (nn : Word) (s : State) : Out := .next (s.loadRp p nn)

/-- LD IX,nn (R241). -/
def execLdIXNn (nn : Word) (s : State) : Out := .next (s.setIdx .ix nn)

/-- LD (nn),IX (R247). -/
def execLdMnnIX (nn : Word) (s : State) : Out := .next (s.write16 nn (s.getIdx .ix))

/-- LD IX,(nn) (R244). -/
def execLdIXMnn (nn : Word) (s : State) : Out := .next (s.loadIdx .ix nn)

/-- POP IX (R253). -/
def execPopIX (s : State) : Out := .next (s.afterPop.setIdx .ix s.popValue)

/-- EX (SP),IX (R264). -/
def execExSpIX (s : State) : Out := .next ((s.swapTop (s.getIdx .ix)).setIdx .ix (s.wordAt s.sp))

/-- PUSH IX (R251). -/
def execPushIX (s : State) : Out := .next (s.push16 (s.getIdx .ix))

/-- LD SP,IX (R249). -/
def execLdSpIX (s : State) : Out := .next { s with sp := s.getIdx .ix }

/-- LD IY,nn (R241). -/
def execLdIYNn (nn : Word) (s : State) : Out := .next (s.setIdx .iy nn)

/-- LD (nn),IY (R247). -/
def execLdMnnIY (nn : Word) (s : State) : Out := .next (s.write16 nn (s.getIdx .iy))

/-- LD IY,(nn) (R244). -/
def execLdIYMnn (nn : Word) (s : State) : Out := .next (s.loadIdx .iy nn)

/-- POP IY (R253). -/
def execPopIY (s : State) : Out := .next (s.afterPop.setIdx .iy s.popValue)

/-- EX (SP),IY (R264). -/
def execExSpIY (s : State) : Out := .next ((s.swapTop (s.getIdx .iy)).setIdx .iy (s.wordAt s.sp))

/-- PUSH IY (R251). -/
def execPushIY (s : State) : Out := .next (s.push16 (s.getIdx .iy))

/-- LD SP,IY (R249). -/
def execLdSpIY (s : State) : Out := .next { s with sp := s.getIdx .iy }

end Sys2Proof.Machine
end

