-- ==== Sys2Proof/Machine/Load8.lean ====
section
/-! DEFINITION. The 8-bit loads (spec/41_load8.md R200 to R219). -/

namespace Sys2Proof.Machine

/-- LD (BC),A (R208). -/
def execLdMbcA (s : State) : Out := .next (s.write8 s.bc s.a)

/-- LD A,(BC) (R205). -/
def execLdAMbc (s : State) : Out := .next (s.loadReg .a s.bc)

/-- LD (DE),A (R209). -/
def execLdMdeA (s : State) : Out := .next (s.write8 s.de s.a)

/-- LD A,(DE) (R206). -/
def execLdAMde (s : State) : Out := .next (s.loadReg .a s.de)

/-- LD (nn),A (R210). -/
def execLdMnnA (nn : Word) (s : State) : Out := .next (s.write8 nn s.a)

/-- LD A,(nn) (R207). -/
def execLdAMnn (nn : Word) (s : State) : Out := .next (s.loadReg .a nn)

/-- LD r,n (R201). -/
def execLdRN (r : Reg8) (n : Byte) (s : State) : Out := .next (s.setReg r n)

/-- LD (HL),n (R204). -/
def execLdMhlN (n : Byte) (s : State) : Out := .next (s.write8 s.hl n)

/-- LD r,r' (R200). -/
def execLdRR (r : Reg8) (r' : Reg8) (s : State) : Out := .next (s.setReg r (s.getReg r'))

/-- LD r,(HL) (R202). -/
def execLdRMhl (r : Reg8) (s : State) : Out := .next (s.loadReg r s.hl)

/-- LD (HL),r (R203). -/
def execLdMhlR (r : Reg8) (s : State) : Out := .next (s.write8 s.hl (s.getReg r))

/-- LD I,A (R216). -/
def execLdIA (s : State) : Out := .next { s with i := s.a }

/-- LD R,A (R217). -/
def execLdRA (s : State) : Out := .next { s with r := s.a }

/-- LD A,I (R218). -/
def execLdAI (s : State) : Out := .next (s.loadAWithIff s.i)

/-- LD A,R (R219). -/
def execLdAR (s : State) : Out := .next (s.loadAWithIff s.r)

/-- LD IXH,n (R215). -/
def execLdIXHN (n : Byte) (s : State) : Out := .next (s.setHalf .ix .high n)

/-- LD IXL,n (R215). -/
def execLdIXLN (n : Byte) (s : State) : Out := .next (s.setHalf .ix .low n)

/-- LD (IX+d),n (R213). -/
def execLdMixdN (d : Byte) (n : Byte) (s : State) : Out := .next (s.write8 (s.ea .ix d) n)

/-- LD r,(IX+d) (R211). -/
def execLdRMixd (r : Reg8) (d : Byte) (s : State) : Out := .next (s.loadReg r (s.ea .ix d))

/-- LD (IX+d),r (R212). -/
def execLdMixdR (d : Byte) (r : Reg8) (s : State) : Out := .next (s.write8 (s.ea .ix d) (s.getReg r))

/-- LD B,IXH (R214). -/
def execLdBIXH (s : State) : Out := .next (s.setReg .b (s.getHalf .ix .high))

/-- LD B,IXL (R214). -/
def execLdBIXL (s : State) : Out := .next (s.setReg .b (s.getHalf .ix .low))

/-- LD C,IXH (R214). -/
def execLdCIXH (s : State) : Out := .next (s.setReg .c (s.getHalf .ix .high))

/-- LD C,IXL (R214). -/
def execLdCIXL (s : State) : Out := .next (s.setReg .c (s.getHalf .ix .low))

/-- LD D,IXH (R214). -/
def execLdDIXH (s : State) : Out := .next (s.setReg .d (s.getHalf .ix .high))

/-- LD D,IXL (R214). -/
def execLdDIXL (s : State) : Out := .next (s.setReg .d (s.getHalf .ix .low))

/-- LD E,IXH (R214). -/
def execLdEIXH (s : State) : Out := .next (s.setReg .e (s.getHalf .ix .high))

/-- LD E,IXL (R214). -/
def execLdEIXL (s : State) : Out := .next (s.setReg .e (s.getHalf .ix .low))

/-- LD IXH,B (R214). -/
def execLdIXHB (s : State) : Out := .next (s.setHalf .ix .high (s.getReg .b))

/-- LD IXH,C (R214). -/
def execLdIXHC (s : State) : Out := .next (s.setHalf .ix .high (s.getReg .c))

/-- LD IXH,D (R214). -/
def execLdIXHD (s : State) : Out := .next (s.setHalf .ix .high (s.getReg .d))

/-- LD IXH,E (R214). -/
def execLdIXHE (s : State) : Out := .next (s.setHalf .ix .high (s.getReg .e))

/-- LD IXH,IXH (R214). -/
def execLdIXHIXH (s : State) : Out := .next (s.setHalf .ix .high (s.getHalf .ix .high))

/-- LD IXH,IXL (R214). -/
def execLdIXHIXL (s : State) : Out := .next (s.setHalf .ix .high (s.getHalf .ix .low))

/-- LD IXH,A (R214). -/
def execLdIXHA (s : State) : Out := .next (s.setHalf .ix .high (s.getReg .a))

/-- LD IXL,B (R214). -/
def execLdIXLB (s : State) : Out := .next (s.setHalf .ix .low (s.getReg .b))

/-- LD IXL,C (R214). -/
def execLdIXLC (s : State) : Out := .next (s.setHalf .ix .low (s.getReg .c))

/-- LD IXL,D (R214). -/
def execLdIXLD (s : State) : Out := .next (s.setHalf .ix .low (s.getReg .d))

/-- LD IXL,E (R214). -/
def execLdIXLE (s : State) : Out := .next (s.setHalf .ix .low (s.getReg .e))

/-- LD IXL,IXH (R214). -/
def execLdIXLIXH (s : State) : Out := .next (s.setHalf .ix .low (s.getHalf .ix .high))

/-- LD IXL,IXL (R214). -/
def execLdIXLIXL (s : State) : Out := .next (s.setHalf .ix .low (s.getHalf .ix .low))

/-- LD IXL,A (R214). -/
def execLdIXLA (s : State) : Out := .next (s.setHalf .ix .low (s.getReg .a))

/-- LD A,IXH (R214). -/
def execLdAIXH (s : State) : Out := .next (s.setReg .a (s.getHalf .ix .high))

/-- LD A,IXL (R214). -/
def execLdAIXL (s : State) : Out := .next (s.setReg .a (s.getHalf .ix .low))

/-- LD IYH,n (R215). -/
def execLdIYHN (n : Byte) (s : State) : Out := .next (s.setHalf .iy .high n)

/-- LD IYL,n (R215). -/
def execLdIYLN (n : Byte) (s : State) : Out := .next (s.setHalf .iy .low n)

/-- LD (IY+d),n (R213). -/
def execLdMiydN (d : Byte) (n : Byte) (s : State) : Out := .next (s.write8 (s.ea .iy d) n)

/-- LD r,(IY+d) (R211). -/
def execLdRMiyd (r : Reg8) (d : Byte) (s : State) : Out := .next (s.loadReg r (s.ea .iy d))

/-- LD (IY+d),r (R212). -/
def execLdMiydR (d : Byte) (r : Reg8) (s : State) : Out := .next (s.write8 (s.ea .iy d) (s.getReg r))

/-- LD B,IYH (R214). -/
def execLdBIYH (s : State) : Out := .next (s.setReg .b (s.getHalf .iy .high))

/-- LD B,IYL (R214). -/
def execLdBIYL (s : State) : Out := .next (s.setReg .b (s.getHalf .iy .low))

/-- LD C,IYH (R214). -/
def execLdCIYH (s : State) : Out := .next (s.setReg .c (s.getHalf .iy .high))

/-- LD C,IYL (R214). -/
def execLdCIYL (s : State) : Out := .next (s.setReg .c (s.getHalf .iy .low))

/-- LD D,IYH (R214). -/
def execLdDIYH (s : State) : Out := .next (s.setReg .d (s.getHalf .iy .high))

/-- LD D,IYL (R214). -/
def execLdDIYL (s : State) : Out := .next (s.setReg .d (s.getHalf .iy .low))

/-- LD E,IYH (R214). -/
def execLdEIYH (s : State) : Out := .next (s.setReg .e (s.getHalf .iy .high))

/-- LD E,IYL (R214). -/
def execLdEIYL (s : State) : Out := .next (s.setReg .e (s.getHalf .iy .low))

/-- LD IYH,B (R214). -/
def execLdIYHB (s : State) : Out := .next (s.setHalf .iy .high (s.getReg .b))

/-- LD IYH,C (R214). -/
def execLdIYHC (s : State) : Out := .next (s.setHalf .iy .high (s.getReg .c))

/-- LD IYH,D (R214). -/
def execLdIYHD (s : State) : Out := .next (s.setHalf .iy .high (s.getReg .d))

/-- LD IYH,E (R214). -/
def execLdIYHE (s : State) : Out := .next (s.setHalf .iy .high (s.getReg .e))

/-- LD IYH,IYH (R214). -/
def execLdIYHIYH (s : State) : Out := .next (s.setHalf .iy .high (s.getHalf .iy .high))

/-- LD IYH,IYL (R214). -/
def execLdIYHIYL (s : State) : Out := .next (s.setHalf .iy .high (s.getHalf .iy .low))

/-- LD IYH,A (R214). -/
def execLdIYHA (s : State) : Out := .next (s.setHalf .iy .high (s.getReg .a))

/-- LD IYL,B (R214). -/
def execLdIYLB (s : State) : Out := .next (s.setHalf .iy .low (s.getReg .b))

/-- LD IYL,C (R214). -/
def execLdIYLC (s : State) : Out := .next (s.setHalf .iy .low (s.getReg .c))

/-- LD IYL,D (R214). -/
def execLdIYLD (s : State) : Out := .next (s.setHalf .iy .low (s.getReg .d))

/-- LD IYL,E (R214). -/
def execLdIYLE (s : State) : Out := .next (s.setHalf .iy .low (s.getReg .e))

/-- LD IYL,IYH (R214). -/
def execLdIYLIYH (s : State) : Out := .next (s.setHalf .iy .low (s.getHalf .iy .high))

/-- LD IYL,IYL (R214). -/
def execLdIYLIYL (s : State) : Out := .next (s.setHalf .iy .low (s.getHalf .iy .low))

/-- LD IYL,A (R214). -/
def execLdIYLA (s : State) : Out := .next (s.setHalf .iy .low (s.getReg .a))

/-- LD A,IYH (R214). -/
def execLdAIYH (s : State) : Out := .next (s.setReg .a (s.getHalf .iy .high))

/-- LD A,IYL (R214). -/
def execLdAIYL (s : State) : Out := .next (s.setReg .a (s.getHalf .iy .low))

end Sys2Proof.Machine
end

