-- ==== Sys2Proof/Machine/RotateBit.lean ====
section
/-! DEFINITION. Rotates, shifts, bit operations and digit rotates (spec/46_rotate_bit.md R380 to R398). -/

namespace Sys2Proof.Machine

/-! ## Digit rotates: RLD and RRD -/

/-- What RLD writes to (HL) (R397). -/
def rldMem (a t : Byte) : Byte := (t <<< 4) ||| (a &&& 0x0F)

/-- What RLD writes to A (R397). -/
def rldA (a t : Byte) : Byte := (a &&& 0xF0) ||| (t >>> 4)

/-- What RRD writes to (HL) (R398). -/
def rrdMem (a t : Byte) : Byte := (a <<< 4) ||| (t >>> 4)

/-- What RRD writes to A (R398). -/
def rrdA (a t : Byte) : Byte := (a &&& 0xF0) ||| (t &&& 0x0F)

/-- (HL) read and written, A written, the flags from the new A; F5 and F3 are marked bits (R397, R398). -/
def State.rotateDigits (s : State) (mem a : Byte) : State :=
  { (s.read8 s.hl).write8 s.hl mem with a := a }.setFlags Flags.undocF53 (valueFlags a (parity a) s.f)

/-! ## The instructions -/

/-- RLCA (R380). -/
def execRlca (s : State) : Out := .next (s.rotateA .rlc)

/-- RRCA (R381). -/
def execRrca (s : State) : Out := .next (s.rotateA .rrc)

/-- RLA (R382). -/
def execRla (s : State) : Out := .next (s.rotateA .rl)

/-- RRA (R383). -/
def execRra (s : State) : Out := .next (s.rotateA .rr)

/-- RLC r (R385). -/
def execRlcR (r : Reg8) (s : State) : Out := .next (s.modifyReg (shiftByte .rlc) r)

/-- RLC (HL) (R385). -/
def execRlcMhl (s : State) : Out := .next (s.modifyMem (shiftByte .rlc) s.hl)

/-- RRC r (R386). -/
def execRrcR (r : Reg8) (s : State) : Out := .next (s.modifyReg (shiftByte .rrc) r)

/-- RRC (HL) (R386). -/
def execRrcMhl (s : State) : Out := .next (s.modifyMem (shiftByte .rrc) s.hl)

/-- RL r (R387). -/
def execRlR (r : Reg8) (s : State) : Out := .next (s.modifyReg (shiftByte .rl) r)

/-- RL (HL) (R387). -/
def execRlMhl (s : State) : Out := .next (s.modifyMem (shiftByte .rl) s.hl)

/-- RR r (R388). -/
def execRrR (r : Reg8) (s : State) : Out := .next (s.modifyReg (shiftByte .rr) r)

/-- RR (HL) (R388). -/
def execRrMhl (s : State) : Out := .next (s.modifyMem (shiftByte .rr) s.hl)

/-- SLA r (R389). -/
def execSlaR (r : Reg8) (s : State) : Out := .next (s.modifyReg (shiftByte .sla) r)

/-- SLA (HL) (R389). -/
def execSlaMhl (s : State) : Out := .next (s.modifyMem (shiftByte .sla) s.hl)

/-- SRA r (R390). -/
def execSraR (r : Reg8) (s : State) : Out := .next (s.modifyReg (shiftByte .sra) r)

/-- SRA (HL) (R390). -/
def execSraMhl (s : State) : Out := .next (s.modifyMem (shiftByte .sra) s.hl)

/-- SLL r (R391). -/
def execSllR (r : Reg8) (s : State) : Out := .next (s.modifyReg (shiftByte .sll) r)

/-- SLL (HL) (R391). -/
def execSllMhl (s : State) : Out := .next (s.modifyMem (shiftByte .sll) s.hl)

/-- SRL r (R392). -/
def execSrlR (r : Reg8) (s : State) : Out := .next (s.modifyReg (shiftByte .srl) r)

/-- SRL (HL) (R392). -/
def execSrlMhl (s : State) : Out := .next (s.modifyMem (shiftByte .srl) s.hl)

/-- BIT b,r (R393). -/
def execBitR (b : Fin 8) (r : Reg8) (s : State) : Out := .next (s.testBit b (s.getReg r))

/-- BIT b,(HL) (R393). -/
def execBitMhl (b : Fin 8) (s : State) : Out := .next (s.testBitMem b s.hl)

/-- RES b,r (R394). -/
def execResR (b : Fin 8) (r : Reg8) (s : State) : Out := .next (s.mapReg (resBit b) r)

/-- RES b,(HL) (R394). -/
def execResMhl (b : Fin 8) (s : State) : Out := .next (s.mapMem (resBit b) s.hl)

/-- SET b,r (R395). -/
def execSetR (b : Fin 8) (r : Reg8) (s : State) : Out := .next (s.mapReg (setBit b) r)

/-- SET b,(HL) (R395). -/
def execSetMhl (b : Fin 8) (s : State) : Out := .next (s.mapMem (setBit b) s.hl)

/-- RRD (R398). -/
def execRrd (s : State) : Out := .next (s.rotateDigits (rrdMem s.a (s.byteAt s.hl)) (rrdA s.a (s.byteAt s.hl)))

/-- RLD (R397). -/
def execRld (s : State) : Out := .next (s.rotateDigits (rldMem s.a (s.byteAt s.hl)) (rldA s.a (s.byteAt s.hl)))

/-- RLC (IX+d) (R385). -/
def execRlcMixd (d : Byte) (s : State) : Out := .next (s.modifyMem (shiftByte .rlc) (s.ea .ix d))

/-- RRC (IX+d) (R386). -/
def execRrcMixd (d : Byte) (s : State) : Out := .next (s.modifyMem (shiftByte .rrc) (s.ea .ix d))

/-- RL (IX+d) (R387). -/
def execRlMixd (d : Byte) (s : State) : Out := .next (s.modifyMem (shiftByte .rl) (s.ea .ix d))

/-- RR (IX+d) (R388). -/
def execRrMixd (d : Byte) (s : State) : Out := .next (s.modifyMem (shiftByte .rr) (s.ea .ix d))

/-- SLA (IX+d) (R389). -/
def execSlaMixd (d : Byte) (s : State) : Out := .next (s.modifyMem (shiftByte .sla) (s.ea .ix d))

/-- SRA (IX+d) (R390). -/
def execSraMixd (d : Byte) (s : State) : Out := .next (s.modifyMem (shiftByte .sra) (s.ea .ix d))

/-- SLL (IX+d) (R391). -/
def execSllMixd (d : Byte) (s : State) : Out := .next (s.modifyMem (shiftByte .sll) (s.ea .ix d))

/-- SRL (IX+d) (R392). -/
def execSrlMixd (d : Byte) (s : State) : Out := .next (s.modifyMem (shiftByte .srl) (s.ea .ix d))

/-- BIT b,(IX+d) (R393). -/
def execBitMixd (b : Fin 8) (d : Byte) (s : State) : Out := .next (s.testBitMem b (s.ea .ix d))

/-- RES b,(IX+d) (R394). -/
def execResMixd (b : Fin 8) (d : Byte) (s : State) : Out := .next (s.mapMem (resBit b) (s.ea .ix d))

/-- SET b,(IX+d) (R395). -/
def execSetMixd (b : Fin 8) (d : Byte) (s : State) : Out := .next (s.mapMem (setBit b) (s.ea .ix d))

/-- rot[y] (IX+d) with copy to reg8[z] (R396). -/
def execRotMixdCopy (k : Rot) (d : Byte) (r : Reg8) (s : State) : Out :=
  .next (s.modifyMemCopy (shiftByte k) (s.ea .ix d) r)

/-- BIT y,(IX+d) (z != 6 alias) (R396). -/
def execBitMixdAlias (b : Fin 8) (d : Byte) (_r : Reg8) (s : State) : Out := .next (s.testBitMem b (s.ea .ix d))

/-- RES y,(IX+d) with copy to reg8[z] (R396). -/
def execResMixdCopy (b : Fin 8) (d : Byte) (r : Reg8) (s : State) : Out :=
  .next (s.mapMemCopy (resBit b) (s.ea .ix d) r)

/-- SET y,(IX+d) with copy to reg8[z] (R396). -/
def execSetMixdCopy (b : Fin 8) (d : Byte) (r : Reg8) (s : State) : Out :=
  .next (s.mapMemCopy (setBit b) (s.ea .ix d) r)

/-- RLC (IY+d) (R385). -/
def execRlcMiyd (d : Byte) (s : State) : Out := .next (s.modifyMem (shiftByte .rlc) (s.ea .iy d))

/-- RRC (IY+d) (R386). -/
def execRrcMiyd (d : Byte) (s : State) : Out := .next (s.modifyMem (shiftByte .rrc) (s.ea .iy d))

/-- RL (IY+d) (R387). -/
def execRlMiyd (d : Byte) (s : State) : Out := .next (s.modifyMem (shiftByte .rl) (s.ea .iy d))

/-- RR (IY+d) (R388). -/
def execRrMiyd (d : Byte) (s : State) : Out := .next (s.modifyMem (shiftByte .rr) (s.ea .iy d))

/-- SLA (IY+d) (R389). -/
def execSlaMiyd (d : Byte) (s : State) : Out := .next (s.modifyMem (shiftByte .sla) (s.ea .iy d))

/-- SRA (IY+d) (R390). -/
def execSraMiyd (d : Byte) (s : State) : Out := .next (s.modifyMem (shiftByte .sra) (s.ea .iy d))

/-- SLL (IY+d) (R391). -/
def execSllMiyd (d : Byte) (s : State) : Out := .next (s.modifyMem (shiftByte .sll) (s.ea .iy d))

/-- SRL (IY+d) (R392). -/
def execSrlMiyd (d : Byte) (s : State) : Out := .next (s.modifyMem (shiftByte .srl) (s.ea .iy d))

/-- BIT b,(IY+d) (R393). -/
def execBitMiyd (b : Fin 8) (d : Byte) (s : State) : Out := .next (s.testBitMem b (s.ea .iy d))

/-- RES b,(IY+d) (R394). -/
def execResMiyd (b : Fin 8) (d : Byte) (s : State) : Out := .next (s.mapMem (resBit b) (s.ea .iy d))

/-- SET b,(IY+d) (R395). -/
def execSetMiyd (b : Fin 8) (d : Byte) (s : State) : Out := .next (s.mapMem (setBit b) (s.ea .iy d))

/-- rot[y] (IY+d) with copy to reg8[z] (R396). -/
def execRotMiydCopy (k : Rot) (d : Byte) (r : Reg8) (s : State) : Out :=
  .next (s.modifyMemCopy (shiftByte k) (s.ea .iy d) r)

/-- BIT y,(IY+d) (z != 6 alias) (R396). -/
def execBitMiydAlias (b : Fin 8) (d : Byte) (_r : Reg8) (s : State) : Out := .next (s.testBitMem b (s.ea .iy d))

/-- RES y,(IY+d) with copy to reg8[z] (R396). -/
def execResMiydCopy (b : Fin 8) (d : Byte) (r : Reg8) (s : State) : Out :=
  .next (s.mapMemCopy (resBit b) (s.ea .iy d) r)

/-- SET y,(IY+d) with copy to reg8[z] (R396). -/
def execSetMiydCopy (b : Fin 8) (d : Byte) (r : Reg8) (s : State) : Out :=
  .next (s.mapMemCopy (setBit b) (s.ea .iy d) r)

end Sys2Proof.Machine
end

