-- ==== Sys2Proof/Machine/Fallthrough.lean ====
section
/-! DEFINITION. The rows behind a DD or FD byte that is no opcode of that space: the base instruction that runs,
and the discarded byte (spec/30_encoding.md R137). -/

namespace Sys2Proof.Machine

/-- The base instructions that can stand behind DD or FD, H, L, HL and (HL) unsubstituted (R137). -/
def execBaseBehind : Instr → State → Out
  | .nop, s => execNop s
  | .exAfAf, s => execExAfAf s
  | .ldMbcA, s => execLdMbcA s
  | .ldAMbc, s => execLdAMbc s
  | .ldMdeA, s => execLdMdeA s
  | .ldAMde, s => execLdAMde s
  | .rlca, s => execRlca s
  | .rrca, s => execRrca s
  | .rla, s => execRla s
  | .rra, s => execRra s
  | .daa, s => execDaa s
  | .cpl, s => execCpl s
  | .scf, s => execScf s
  | .ccf, s => execCcf s
  | .halt, s => execHalt s
  | .ret, s => execRet s
  | .exx, s => execExx s
  | .exDeHL, s => execExDeHL s
  | .di, s => execDi s
  | .ei, s => execEi s
  | .djnz e, s => execDjnz e s
  | .jr e, s => execJr e s
  | .jrCc jc e, s => execJrCc jc e s
  | .ldRpNn p nn, s => execLdRpNn p nn s
  | .ldMnnA nn, s => execLdMnnA nn s
  | .ldAMnn nn, s => execLdAMnn nn s
  | .incRp p, s => execIncRp p s
  | .decRp p, s => execDecRp p s
  | .incR r, s => execIncR r s
  | .decR r, s => execDecR r s
  | .ldRN r n, s => execLdRN r n s
  | .ldRR r r', s => execLdRR r r' s
  | .addR r, s => execAddR r s
  | .addN n, s => execAddN n s
  | .adcR r, s => execAdcR r s
  | .adcN n, s => execAdcN n s
  | .subR r, s => execSubR r s
  | .subN n, s => execSubN n s
  | .sbcR r, s => execSbcR r s
  | .sbcN n, s => execSbcN n s
  | .andR r, s => execAndR r s
  | .andN n, s => execAndN n s
  | .xorR r, s => execXorR r s
  | .xorN n, s => execXorN n s
  | .orR r, s => execOrR r s
  | .orN n, s => execOrN n s
  | .cpR r, s => execCpR r s
  | .cpN n, s => execCpN n s
  | .retCc cc, s => execRetCc cc s
  | .popQq q, s => execPopQq q s
  | .pushQq q, s => execPushQq q s
  | .jpNn nn, s => execJpNn nn s
  | .outNA n, s => execOutNA n s
  | .inAN n, s => execInAN n s
  | .callNn nn, s => execCallNn nn s
  | .jpCcNn cc nn, s => execJpCcNn cc nn s
  | .callCcNn cc nn, s => execCallCcNn cc nn s
  | .rst k, s => execRst k s
  | i, _ => .refused (.notABaseInstruction i)

/-- A base instruction behind DD (R137); its charge is four more than the base entry's (70_reset_and_hazards.md
R567), made at dispatch. -/
def execDdBase (i : Instr) (s : State) : Out :=
  if i.fallsThrough then execBaseBehind i s else .refused (.notABaseInstruction i)

/-- A base instruction behind FD (R137). -/
def execFdBase (i : Instr) (s : State) : Out :=
  if i.fallsThrough then execBaseBehind i s else .refused (.notABaseInstruction i)

/-- A discarded DD: nothing but its fetch and its charge of four; the step goes on at the byte behind it (R137). -/
def execDdDiscarded (_w : NextByte) (s : State) : Out := .next s

/-- A discarded FD (R137). -/
def execFdDiscarded (_w : NextByte) (s : State) : Out := .next s

end Sys2Proof.Machine
end

