-- ==== Sys2Proof/Machine/Dispatch.lean ====
section
/-! DEFINITION. The dispatch: one arm per constructor of `Instr`. -/

namespace Sys2Proof.Machine

/-- What an instruction does to the state in which PC is past its bytes and its primary cycles are charged
(spec/70_reset_and_hazards.md R567). -/
def exec (i : Instr) (s : State) : Host.Outcome State Fault Refusal :=
  match i with
  | .djnz e => Sys2Proof.Machine.execDjnz e s
  | .jr e => Sys2Proof.Machine.execJr e s
  | .jrCc jc e => Sys2Proof.Machine.execJrCc jc e s
  | .ldRpNn p nn => Sys2Proof.Machine.execLdRpNn p nn s
  | .addHLRp p => Sys2Proof.Machine.execAddHLRp p s
  | .ldMnnHL nn => Sys2Proof.Machine.execLdMnnHL nn s
  | .ldHLMnn nn => Sys2Proof.Machine.execLdHLMnn nn s
  | .ldMnnA nn => Sys2Proof.Machine.execLdMnnA nn s
  | .ldAMnn nn => Sys2Proof.Machine.execLdAMnn nn s
  | .incRp p => Sys2Proof.Machine.execIncRp p s
  | .decRp p => Sys2Proof.Machine.execDecRp p s
  | .incR r => Sys2Proof.Machine.execIncR r s
  | .decR r => Sys2Proof.Machine.execDecR r s
  | .ldRN r n => Sys2Proof.Machine.execLdRN r n s
  | .ldMhlN n => Sys2Proof.Machine.execLdMhlN n s
  | .ldRR r r' => Sys2Proof.Machine.execLdRR r r' s
  | .ldRMhl r => Sys2Proof.Machine.execLdRMhl r s
  | .ldMhlR r => Sys2Proof.Machine.execLdMhlR r s
  | .addR r => Sys2Proof.Machine.execAddR r s
  | .addN n => Sys2Proof.Machine.execAddN n s
  | .adcR r => Sys2Proof.Machine.execAdcR r s
  | .adcN n => Sys2Proof.Machine.execAdcN n s
  | .subR r => Sys2Proof.Machine.execSubR r s
  | .subN n => Sys2Proof.Machine.execSubN n s
  | .sbcR r => Sys2Proof.Machine.execSbcR r s
  | .sbcN n => Sys2Proof.Machine.execSbcN n s
  | .andR r => Sys2Proof.Machine.execAndR r s
  | .andN n => Sys2Proof.Machine.execAndN n s
  | .xorR r => Sys2Proof.Machine.execXorR r s
  | .xorN n => Sys2Proof.Machine.execXorN n s
  | .orR r => Sys2Proof.Machine.execOrR r s
  | .orN n => Sys2Proof.Machine.execOrN n s
  | .cpR r => Sys2Proof.Machine.execCpR r s
  | .cpN n => Sys2Proof.Machine.execCpN n s
  | .retCc cc => Sys2Proof.Machine.execRetCc cc s
  | .popQq q => Sys2Proof.Machine.execPopQq q s
  | .pushQq q => Sys2Proof.Machine.execPushQq q s
  | .jpNn nn => Sys2Proof.Machine.execJpNn nn s
  | .outNA n => Sys2Proof.Machine.execOutNA n s
  | .inAN n => Sys2Proof.Machine.execInAN n s
  | .callNn nn => Sys2Proof.Machine.execCallNn nn s
  | .jpCcNn cc nn => Sys2Proof.Machine.execJpCcNn cc nn s
  | .callCcNn cc nn => Sys2Proof.Machine.execCallCcNn cc nn s
  | .rst k => Sys2Proof.Machine.execRst k s
  | .rlcR r => Sys2Proof.Machine.execRlcR r s
  | .rrcR r => Sys2Proof.Machine.execRrcR r s
  | .rlR r => Sys2Proof.Machine.execRlR r s
  | .rrR r => Sys2Proof.Machine.execRrR r s
  | .slaR r => Sys2Proof.Machine.execSlaR r s
  | .sraR r => Sys2Proof.Machine.execSraR r s
  | .sllR r => Sys2Proof.Machine.execSllR r s
  | .srlR r => Sys2Proof.Machine.execSrlR r s
  | .bitR b r => Sys2Proof.Machine.execBitR b r s
  | .bitMhl b => Sys2Proof.Machine.execBitMhl b s
  | .resR b r => Sys2Proof.Machine.execResR b r s
  | .resMhl b => Sys2Proof.Machine.execResMhl b s
  | .setR b r => Sys2Proof.Machine.execSetR b r s
  | .setMhl b => Sys2Proof.Machine.execSetMhl b s
  | .inRC r => Sys2Proof.Machine.execInRC r s
  | .outCR r => Sys2Proof.Machine.execOutCR r s
  | .sbcHLRp p => Sys2Proof.Machine.execSbcHLRp p s
  | .adcHLRp p => Sys2Proof.Machine.execAdcHLRp p s
  | .ldMnnRp p nn => Sys2Proof.Machine.execLdMnnRp p nn s
  | .ldRpMnn p nn => Sys2Proof.Machine.execLdRpMnn p nn s
  | .negAlias y => Sys2Proof.Machine.execNegAlias y s
  | .retnAlias y => Sys2Proof.Machine.execRetnAlias y s
  | .im0Alias y => Sys2Proof.Machine.execIm0Alias y s
  | .addIXRp p => Sys2Proof.Machine.execAddIXRp p s
  | .ldIXNn nn => Sys2Proof.Machine.execLdIXNn nn s
  | .ldMnnIX nn => Sys2Proof.Machine.execLdMnnIX nn s
  | .ldIXMnn nn => Sys2Proof.Machine.execLdIXMnn nn s
  | .ldIXHN n => Sys2Proof.Machine.execLdIXHN n s
  | .ldIXLN n => Sys2Proof.Machine.execLdIXLN n s
  | .incMixd d => Sys2Proof.Machine.execIncMixd d s
  | .decMixd d => Sys2Proof.Machine.execDecMixd d s
  | .ldMixdN d n => Sys2Proof.Machine.execLdMixdN d n s
  | .ldRMixd r d => Sys2Proof.Machine.execLdRMixd r d s
  | .ldMixdR d r => Sys2Proof.Machine.execLdMixdR d r s
  | .addMixd d => Sys2Proof.Machine.execAddMixd d s
  | .adcMixd d => Sys2Proof.Machine.execAdcMixd d s
  | .subMixd d => Sys2Proof.Machine.execSubMixd d s
  | .sbcMixd d => Sys2Proof.Machine.execSbcMixd d s
  | .andMixd d => Sys2Proof.Machine.execAndMixd d s
  | .xorMixd d => Sys2Proof.Machine.execXorMixd d s
  | .orMixd d => Sys2Proof.Machine.execOrMixd d s
  | .cpMixd d => Sys2Proof.Machine.execCpMixd d s
  | .ddBase x => Sys2Proof.Machine.execDdBase x s
  | .ddDiscarded w => Sys2Proof.Machine.execDdDiscarded w s
  | .addIYRp p => Sys2Proof.Machine.execAddIYRp p s
  | .ldIYNn nn => Sys2Proof.Machine.execLdIYNn nn s
  | .ldMnnIY nn => Sys2Proof.Machine.execLdMnnIY nn s
  | .ldIYMnn nn => Sys2Proof.Machine.execLdIYMnn nn s
  | .ldIYHN n => Sys2Proof.Machine.execLdIYHN n s
  | .ldIYLN n => Sys2Proof.Machine.execLdIYLN n s
  | .incMiyd d => Sys2Proof.Machine.execIncMiyd d s
  | .decMiyd d => Sys2Proof.Machine.execDecMiyd d s
  | .ldMiydN d n => Sys2Proof.Machine.execLdMiydN d n s
  | .ldRMiyd r d => Sys2Proof.Machine.execLdRMiyd r d s
  | .ldMiydR d r => Sys2Proof.Machine.execLdMiydR d r s
  | .addMiyd d => Sys2Proof.Machine.execAddMiyd d s
  | .adcMiyd d => Sys2Proof.Machine.execAdcMiyd d s
  | .subMiyd d => Sys2Proof.Machine.execSubMiyd d s
  | .sbcMiyd d => Sys2Proof.Machine.execSbcMiyd d s
  | .andMiyd d => Sys2Proof.Machine.execAndMiyd d s
  | .xorMiyd d => Sys2Proof.Machine.execXorMiyd d s
  | .orMiyd d => Sys2Proof.Machine.execOrMiyd d s
  | .cpMiyd d => Sys2Proof.Machine.execCpMiyd d s
  | .fdBase x => Sys2Proof.Machine.execFdBase x s
  | .fdDiscarded w => Sys2Proof.Machine.execFdDiscarded w s
  | .rlcMixd d => Sys2Proof.Machine.execRlcMixd d s
  | .rrcMixd d => Sys2Proof.Machine.execRrcMixd d s
  | .rlMixd d => Sys2Proof.Machine.execRlMixd d s
  | .rrMixd d => Sys2Proof.Machine.execRrMixd d s
  | .slaMixd d => Sys2Proof.Machine.execSlaMixd d s
  | .sraMixd d => Sys2Proof.Machine.execSraMixd d s
  | .sllMixd d => Sys2Proof.Machine.execSllMixd d s
  | .srlMixd d => Sys2Proof.Machine.execSrlMixd d s
  | .bitMixd b d => Sys2Proof.Machine.execBitMixd b d s
  | .resMixd b d => Sys2Proof.Machine.execResMixd b d s
  | .setMixd b d => Sys2Proof.Machine.execSetMixd b d s
  | .rotMixdCopy k d r => Sys2Proof.Machine.execRotMixdCopy k d r s
  | .bitMixdAlias b d r => Sys2Proof.Machine.execBitMixdAlias b d r s
  | .resMixdCopy b d r => Sys2Proof.Machine.execResMixdCopy b d r s
  | .setMixdCopy b d r => Sys2Proof.Machine.execSetMixdCopy b d r s
  | .rlcMiyd d => Sys2Proof.Machine.execRlcMiyd d s
  | .rrcMiyd d => Sys2Proof.Machine.execRrcMiyd d s
  | .rlMiyd d => Sys2Proof.Machine.execRlMiyd d s
  | .rrMiyd d => Sys2Proof.Machine.execRrMiyd d s
  | .slaMiyd d => Sys2Proof.Machine.execSlaMiyd d s
  | .sraMiyd d => Sys2Proof.Machine.execSraMiyd d s
  | .sllMiyd d => Sys2Proof.Machine.execSllMiyd d s
  | .srlMiyd d => Sys2Proof.Machine.execSrlMiyd d s
  | .bitMiyd b d => Sys2Proof.Machine.execBitMiyd b d s
  | .resMiyd b d => Sys2Proof.Machine.execResMiyd b d s
  | .setMiyd b d => Sys2Proof.Machine.execSetMiyd b d s
  | .rotMiydCopy k d r => Sys2Proof.Machine.execRotMiydCopy k d r s
  | .bitMiydAlias b d r => Sys2Proof.Machine.execBitMiydAlias b d r s
  | .resMiydCopy b d r => Sys2Proof.Machine.execResMiydCopy b d r s
  | .setMiydCopy b d r => Sys2Proof.Machine.execSetMiydCopy b d r s
  | .nop => Sys2Proof.Machine.execNop s
  | .exAfAf => Sys2Proof.Machine.execExAfAf s
  | .ldMbcA => Sys2Proof.Machine.execLdMbcA s
  | .ldAMbc => Sys2Proof.Machine.execLdAMbc s
  | .ldMdeA => Sys2Proof.Machine.execLdMdeA s
  | .ldAMde => Sys2Proof.Machine.execLdAMde s
  | .incMhl => Sys2Proof.Machine.execIncMhl s
  | .decMhl => Sys2Proof.Machine.execDecMhl s
  | .rlca => Sys2Proof.Machine.execRlca s
  | .rrca => Sys2Proof.Machine.execRrca s
  | .rla => Sys2Proof.Machine.execRla s
  | .rra => Sys2Proof.Machine.execRra s
  | .daa => Sys2Proof.Machine.execDaa s
  | .cpl => Sys2Proof.Machine.execCpl s
  | .scf => Sys2Proof.Machine.execScf s
  | .ccf => Sys2Proof.Machine.execCcf s
  | .halt => Sys2Proof.Machine.execHalt s
  | .addMhl => Sys2Proof.Machine.execAddMhl s
  | .adcMhl => Sys2Proof.Machine.execAdcMhl s
  | .subMhl => Sys2Proof.Machine.execSubMhl s
  | .sbcMhl => Sys2Proof.Machine.execSbcMhl s
  | .andMhl => Sys2Proof.Machine.execAndMhl s
  | .xorMhl => Sys2Proof.Machine.execXorMhl s
  | .orMhl => Sys2Proof.Machine.execOrMhl s
  | .cpMhl => Sys2Proof.Machine.execCpMhl s
  | .ret => Sys2Proof.Machine.execRet s
  | .exx => Sys2Proof.Machine.execExx s
  | .jpHL => Sys2Proof.Machine.execJpHL s
  | .ldSpHL => Sys2Proof.Machine.execLdSpHL s
  | .exSpHL => Sys2Proof.Machine.execExSpHL s
  | .exDeHL => Sys2Proof.Machine.execExDeHL s
  | .di => Sys2Proof.Machine.execDi s
  | .ei => Sys2Proof.Machine.execEi s
  | .rlcMhl => Sys2Proof.Machine.execRlcMhl s
  | .rrcMhl => Sys2Proof.Machine.execRrcMhl s
  | .rlMhl => Sys2Proof.Machine.execRlMhl s
  | .rrMhl => Sys2Proof.Machine.execRrMhl s
  | .slaMhl => Sys2Proof.Machine.execSlaMhl s
  | .sraMhl => Sys2Proof.Machine.execSraMhl s
  | .sllMhl => Sys2Proof.Machine.execSllMhl s
  | .srlMhl => Sys2Proof.Machine.execSrlMhl s
  | .inFC => Sys2Proof.Machine.execInFC s
  | .outC0 => Sys2Proof.Machine.execOutC0 s
  | .neg => Sys2Proof.Machine.execNeg s
  | .retn => Sys2Proof.Machine.execRetn s
  | .reti => Sys2Proof.Machine.execReti s
  | .im0 => Sys2Proof.Machine.execIm0 s
  | .im1 => Sys2Proof.Machine.execIm1 s
  | .im2 => Sys2Proof.Machine.execIm2 s
  | .im1Alias => Sys2Proof.Machine.execIm1Alias s
  | .im2Alias => Sys2Proof.Machine.execIm2Alias s
  | .ldIA => Sys2Proof.Machine.execLdIA s
  | .ldRA => Sys2Proof.Machine.execLdRA s
  | .ldAI => Sys2Proof.Machine.execLdAI s
  | .ldAR => Sys2Proof.Machine.execLdAR s
  | .rrd => Sys2Proof.Machine.execRrd s
  | .rld => Sys2Proof.Machine.execRld s
  | .ldi => Sys2Proof.Machine.execLdi s
  | .cpi => Sys2Proof.Machine.execCpi s
  | .ini => Sys2Proof.Machine.execIni s
  | .outi => Sys2Proof.Machine.execOuti s
  | .ldd => Sys2Proof.Machine.execLdd s
  | .cpd => Sys2Proof.Machine.execCpd s
  | .ind => Sys2Proof.Machine.execInd s
  | .outd => Sys2Proof.Machine.execOutd s
  | .ldir => Sys2Proof.Machine.execLdir s
  | .cpir => Sys2Proof.Machine.execCpir s
  | .inir => Sys2Proof.Machine.execInir s
  | .otir => Sys2Proof.Machine.execOtir s
  | .lddr => Sys2Proof.Machine.execLddr s
  | .cpdr => Sys2Proof.Machine.execCpdr s
  | .indr => Sys2Proof.Machine.execIndr s
  | .otdr => Sys2Proof.Machine.execOtdr s
  | .incIX => Sys2Proof.Machine.execIncIX s
  | .decIX => Sys2Proof.Machine.execDecIX s
  | .incIXH => Sys2Proof.Machine.execIncIXH s
  | .decIXH => Sys2Proof.Machine.execDecIXH s
  | .incIXL => Sys2Proof.Machine.execIncIXL s
  | .decIXL => Sys2Proof.Machine.execDecIXL s
  | .popIX => Sys2Proof.Machine.execPopIX s
  | .exSpIX => Sys2Proof.Machine.execExSpIX s
  | .pushIX => Sys2Proof.Machine.execPushIX s
  | .jpIX => Sys2Proof.Machine.execJpIX s
  | .ldSpIX => Sys2Proof.Machine.execLdSpIX s
  | .ldBIXH => Sys2Proof.Machine.execLdBIXH s
  | .ldBIXL => Sys2Proof.Machine.execLdBIXL s
  | .ldCIXH => Sys2Proof.Machine.execLdCIXH s
  | .ldCIXL => Sys2Proof.Machine.execLdCIXL s
  | .ldDIXH => Sys2Proof.Machine.execLdDIXH s
  | .ldDIXL => Sys2Proof.Machine.execLdDIXL s
  | .ldEIXH => Sys2Proof.Machine.execLdEIXH s
  | .ldEIXL => Sys2Proof.Machine.execLdEIXL s
  | .ldIXHB => Sys2Proof.Machine.execLdIXHB s
  | .ldIXHC => Sys2Proof.Machine.execLdIXHC s
  | .ldIXHD => Sys2Proof.Machine.execLdIXHD s
  | .ldIXHE => Sys2Proof.Machine.execLdIXHE s
  | .ldIXHIXH => Sys2Proof.Machine.execLdIXHIXH s
  | .ldIXHIXL => Sys2Proof.Machine.execLdIXHIXL s
  | .ldIXHA => Sys2Proof.Machine.execLdIXHA s
  | .ldIXLB => Sys2Proof.Machine.execLdIXLB s
  | .ldIXLC => Sys2Proof.Machine.execLdIXLC s
  | .ldIXLD => Sys2Proof.Machine.execLdIXLD s
  | .ldIXLE => Sys2Proof.Machine.execLdIXLE s
  | .ldIXLIXH => Sys2Proof.Machine.execLdIXLIXH s
  | .ldIXLIXL => Sys2Proof.Machine.execLdIXLIXL s
  | .ldIXLA => Sys2Proof.Machine.execLdIXLA s
  | .ldAIXH => Sys2Proof.Machine.execLdAIXH s
  | .ldAIXL => Sys2Proof.Machine.execLdAIXL s
  | .addIXH => Sys2Proof.Machine.execAddIXH s
  | .addIXL => Sys2Proof.Machine.execAddIXL s
  | .adcIXH => Sys2Proof.Machine.execAdcIXH s
  | .adcIXL => Sys2Proof.Machine.execAdcIXL s
  | .subIXH => Sys2Proof.Machine.execSubIXH s
  | .subIXL => Sys2Proof.Machine.execSubIXL s
  | .sbcIXH => Sys2Proof.Machine.execSbcIXH s
  | .sbcIXL => Sys2Proof.Machine.execSbcIXL s
  | .andIXH => Sys2Proof.Machine.execAndIXH s
  | .andIXL => Sys2Proof.Machine.execAndIXL s
  | .xorIXH => Sys2Proof.Machine.execXorIXH s
  | .xorIXL => Sys2Proof.Machine.execXorIXL s
  | .orIXH => Sys2Proof.Machine.execOrIXH s
  | .orIXL => Sys2Proof.Machine.execOrIXL s
  | .cpIXH => Sys2Proof.Machine.execCpIXH s
  | .cpIXL => Sys2Proof.Machine.execCpIXL s
  | .incIY => Sys2Proof.Machine.execIncIY s
  | .decIY => Sys2Proof.Machine.execDecIY s
  | .incIYH => Sys2Proof.Machine.execIncIYH s
  | .decIYH => Sys2Proof.Machine.execDecIYH s
  | .incIYL => Sys2Proof.Machine.execIncIYL s
  | .decIYL => Sys2Proof.Machine.execDecIYL s
  | .popIY => Sys2Proof.Machine.execPopIY s
  | .exSpIY => Sys2Proof.Machine.execExSpIY s
  | .pushIY => Sys2Proof.Machine.execPushIY s
  | .jpIY => Sys2Proof.Machine.execJpIY s
  | .ldSpIY => Sys2Proof.Machine.execLdSpIY s
  | .ldBIYH => Sys2Proof.Machine.execLdBIYH s
  | .ldBIYL => Sys2Proof.Machine.execLdBIYL s
  | .ldCIYH => Sys2Proof.Machine.execLdCIYH s
  | .ldCIYL => Sys2Proof.Machine.execLdCIYL s
  | .ldDIYH => Sys2Proof.Machine.execLdDIYH s
  | .ldDIYL => Sys2Proof.Machine.execLdDIYL s
  | .ldEIYH => Sys2Proof.Machine.execLdEIYH s
  | .ldEIYL => Sys2Proof.Machine.execLdEIYL s
  | .ldIYHB => Sys2Proof.Machine.execLdIYHB s
  | .ldIYHC => Sys2Proof.Machine.execLdIYHC s
  | .ldIYHD => Sys2Proof.Machine.execLdIYHD s
  | .ldIYHE => Sys2Proof.Machine.execLdIYHE s
  | .ldIYHIYH => Sys2Proof.Machine.execLdIYHIYH s
  | .ldIYHIYL => Sys2Proof.Machine.execLdIYHIYL s
  | .ldIYHA => Sys2Proof.Machine.execLdIYHA s
  | .ldIYLB => Sys2Proof.Machine.execLdIYLB s
  | .ldIYLC => Sys2Proof.Machine.execLdIYLC s
  | .ldIYLD => Sys2Proof.Machine.execLdIYLD s
  | .ldIYLE => Sys2Proof.Machine.execLdIYLE s
  | .ldIYLIYH => Sys2Proof.Machine.execLdIYLIYH s
  | .ldIYLIYL => Sys2Proof.Machine.execLdIYLIYL s
  | .ldIYLA => Sys2Proof.Machine.execLdIYLA s
  | .ldAIYH => Sys2Proof.Machine.execLdAIYH s
  | .ldAIYL => Sys2Proof.Machine.execLdAIYL s
  | .addIYH => Sys2Proof.Machine.execAddIYH s
  | .addIYL => Sys2Proof.Machine.execAddIYL s
  | .adcIYH => Sys2Proof.Machine.execAdcIYH s
  | .adcIYL => Sys2Proof.Machine.execAdcIYL s
  | .subIYH => Sys2Proof.Machine.execSubIYH s
  | .subIYL => Sys2Proof.Machine.execSubIYL s
  | .sbcIYH => Sys2Proof.Machine.execSbcIYH s
  | .sbcIYL => Sys2Proof.Machine.execSbcIYL s
  | .andIYH => Sys2Proof.Machine.execAndIYH s
  | .andIYL => Sys2Proof.Machine.execAndIYL s
  | .xorIYH => Sys2Proof.Machine.execXorIYH s
  | .xorIYL => Sys2Proof.Machine.execXorIYL s
  | .orIYH => Sys2Proof.Machine.execOrIYH s
  | .orIYL => Sys2Proof.Machine.execOrIYL s
  | .cpIYH => Sys2Proof.Machine.execCpIYH s
  | .cpIYL => Sys2Proof.Machine.execCpIYL s

end Sys2Proof.Machine
end

