-- ==== Sys2Proof/Machine/Run.lean ====
section
/-! DEFINITION. Fetching, decoding, charging and running one instruction (spec/30_encoding.md R127,
60_exceptions.md R491 to R493, 70_reset_and_hazards.md R567). -/

namespace Sys2Proof.Machine

/-! ## The rows a parameter enables (30_encoding.md R136 to R138) -/

/-- The rows that `ED_UNDOC` enables (R136). -/
def isEdUndoc : Instr → Bool
  | .inFC | .outC0 | .im1Alias | .im2Alias => true
  | .negAlias _ | .retnAlias _ | .im0Alias _ => true
  | _ => false

/-- The rows that `DDFD_UNDOC` enables (R137). -/
def isDdfdUndoc : Instr → Bool
  | .ddBase _ | .fdBase _ | .ddDiscarded _ | .fdDiscarded _ => true
  | _ => false

/-- The rows that `IDXCB_UNDOC` enables (R138). -/
def isIdxcbUndoc : Instr → Bool
  | .rotMixdCopy _ _ _ | .bitMixdAlias _ _ _ | .resMixdCopy _ _ _ | .setMixdCopy _ _ _ => true
  | .rotMiydCopy _ _ _ | .bitMiydAlias _ _ _ | .resMiydCopy _ _ _ | .setMiydCopy _ _ _ => true
  | _ => false

/-- The row of an instruction is enabled (R136 to R138). -/
def enabled (p : Params) (i : Instr) : Bool :=
  (!isEdUndoc i || p.edUndoc == .execute) && (!isDdfdUndoc i || p.ddfdUndoc == .execute)
    && (!isIdxcbUndoc i || p.idxcbUndoc == .execute)

/-- The parameters with the row of an instruction enabled. -/
def enable (p : Params) (i : Instr) : Params :=
  { p with
    edUndoc := if isEdUndoc i then .execute else p.edUndoc
    ddfdUndoc := if isDdfdUndoc i then .execute else p.ddfdUndoc
    idxcbUndoc := if isIdxcbUndoc i then .execute else p.idxcbUndoc }

/-! ## Charging and fetching an instruction -/

/-- The row runs a base instruction behind DD or FD. -/
def isBehind : Instr → Bool
  | .ddBase _ | .fdBase _ => true
  | _ => false

/-- The primary charge of the instruction read from these bytes, none where its entry is unset (70_reset_and_hazards.md
R567, R493; log 10). -/
def primaryCharge (t : TimingTables) (i : Instr) (bs : List Byte) : Option Nat :=
  if i.isDiscarded then some 4
  else if isBehind i then (TimingTable.entry t.base (bs.getD 1 0)).map (· + 4)
  else
    match classify bs with
    | some (sp, op) => TimingTable.entry (t.primary sp) op
    | none => none

/-- How many opcode-byte fetches raise R under `M1`: each byte before the operands, less the final byte of a DD CB or
FD CB instruction and the displacement before it (10_state.md R38). -/
def refreshFetches (b0 b1 : Byte) : Nat := min 2 (opcodeBytes b0 b1)

/-- The bytes at PC, as many as the longest instruction has; reading them ahead changes nothing (log 18). -/
def State.bytesAtPc (s : State) : List Byte := s.fetchedBytes 4

/-- The state a step leaves that stops at decode: PC past the opcode bytes, R per policy, and the cycle counter `t0` of
the step's start (60_exceptions.md R492, R493; decision D21; log 12). -/
def State.stopAtDecode (s : State) (t0 : Nat) (b0 b1 : Byte) : State :=
  { (s.fetchMany (opcodeBytes b0 b1)).bumpR (refreshFetches b0 b1) with tStates := t0 }

/-- UnimplementedOpcode at the instruction that starts at PC (60_exceptions.md R492). -/
def State.unimplemented (s : State) (t0 : Nat) (b0 b1 : Byte) : Out :=
  .fault (.unimplementedOpcode s.pc (s.fetchedBytes (opcodeBytes b0 b1)) (s.stopAtDecode t0 b0 b1))

/-- TimingUnset at the instruction that starts at PC (60_exceptions.md R493). -/
def State.timingMissing (s : State) (t0 : Nat) (b0 b1 : Byte) : Out :=
  .fault (.timingUnset s.pc (s.fetchedBytes (opcodeBytes b0 b1)) (s.stopAtDecode t0 b0 b1))

/-- The state in which an instruction's meaning runs: its bytes fetched, R raised, its primary cycles charged. -/
def State.dispatched (s : State) (i : Instr) (c : Nat) : State :=
  let bs := s.bytesAtPc
  let k := if i.isDiscarded then 1 else refreshFetches (bs.getD 0 0) (bs.getD 1 0)
  ((s.fetchMany i.length).bumpR k).charge c

/-- What decoding and running the bytes at PC comes to: the step goes on behind a discarded DD or FD, or it ends. -/
inductive Progress where
  | goesOn (s : State)
  | ends (o : Out)
  deriving Repr

/-- Decode the bytes at PC and run what they are (30_encoding.md R127, R137). `t0` is the cycle counter at the step's
start. -/
def State.runOnce (t0 : Nat) (s : State) : Progress :=
  let bs := s.bytesAtPc
  match decode bs with
  | .error _ => .ends (s.unimplemented t0 (bs.getD 0 0) (bs.getD 1 0))
  | .ok i =>
    if enabled s.params i then
      match primaryCharge s.timing i bs with
      | none => .ends (s.timingMissing t0 (bs.getD 0 0) (bs.getD 1 0))
      | some c =>
        match exec i (s.dispatched i c) with
        | .next s' => if i.isDiscarded then .goesOn s' else .ends (.next s')
        | .fault e => .ends (.fault e)
        | .refused e => .ends (.refused e)
    else .ends (s.unimplemented t0 (bs.getD 0 0) (bs.getD 1 0))

/-- Go on behind at most `k` discarded bytes (30_encoding.md R137). -/
def runChain (t0 : Nat) : Nat → State → Progress
  | 0, s => .goesOn s
  | k + 1, s =>
    match s.runOnce t0 with
    | .goesOn s' => runChain t0 k s'
    | .ends o => .ends o

/-- Go on behind discarded bytes, however many they are (30_encoding.md R137): `none` where they never end. -/
def runOn (t0 : Nat) (s : State) : Option Out :=
  match s.runOnce t0 with
  | .goesOn s' => runOn t0 s'
  | .ends o => some o
partial_fixpoint

/-- The step from a state in which a whole turn of the address space was discarded: in plain RAM the chain has come
round to its start and has no end; a collaborator may still end it (30_encoding.md R137, 20_memory.md R87; log 11). -/
def State.runOut (s : State) (t0 : Nat) : Option Out :=
  match s.params.memModel with
  | .ram => none
  | .collaborator => runOn t0 s

/-- The part of a step after NMI sampling (60_exceptions.md R491). -/
def State.run (s : State) : Out :=
  match runChain s.tStates 65536 s with
  | .ends o => o
  | .goesOn s' =>
    match s'.runOut s.tStates with
    | some o => o
    | none => .fault (.endlessPrefixChain s.pc)

/-- One call of `executeOneInstruction()` (60_exceptions.md R491, R500). -/
def State.executeOne (s : State) : Out :=
  if s.eidi then { s with eidi := false }.run
  else if s.nmi then .next s.acceptNmi
  else s.run

/-! ## Placing an instruction where the next step fetches it (log 19) -/

/-- Memory with these bytes from an address on, wrapping. -/
def placeBytes (m : Memory) (a : Word) : List Byte → Memory
  | [] => m
  | b :: bs => placeBytes (Memory.write m a.toNat b) (a + 1) bs

/-- A state whose next step runs the instruction of these bytes: the bytes at PC in plain RAM, no NMI in the way, its
row enabled and, where its timing entry is unset, the default tables. -/
def State.placeInstruction (s : State) (bs : List Byte) : State :=
  let i := match decode bs with
    | .ok i => i
    | .error _ => .nop
  { s with
    mem := placeBytes s.mem s.pc bs
    nmi := s.nmi && s.eidi
    params := { enable s.params i with memModel := .ram }
    timing := if (primaryCharge s.timing i bs).isNone then defaultTables else s.timing }

end Sys2Proof.Machine
end

