-- ==== Sys2Proof/Machine/Step.lean ====
section
/-! DEFINITION. One step of the engine (spec/60_exceptions.md R490, R491). -/

namespace Sys2Proof.Machine

/-- One step: one call of `executeOneInstruction()` (R491). -/
def step (s : State) : Host.Outcome State Fault Refusal := s.executeOne

/-- `s` with the instruction of a table word where `step` fetches its next instruction (log 19). -/
def State.withFetchWord (s : State) (nbits w : Nat) : State := s.placeInstruction (tableBytes nbits w)

end Sys2Proof.Machine
end

