-- ==== Sys2Proof/Machine/HostCalls.lean ====
section
/-! DEFINITION. The host interface: the calls the engine exposes (spec/60_exceptions.md R520), the register identifiers
(spec/10_state.md R59, R60), the resets and construction (spec/70_reset_and_hazards.md R530 to R533). -/

namespace Sys2Proof.Machine

/-! ## Registers by identifier (10_state.md R59, R60) -/

/-- The register identifiers of the host (R59; decision D20). A trailing `'` is the shadow register, as in
the spec. -/
inductive HostReg where
  | a | f | b | c | d | e | h | l
  | a' | f' | b' | c' | d' | e' | h' | l'
  | af | bc | de | hl
  | af' | bc' | de' | hl'
  | ix | iy
  | ixh | ixl | iyh | iyl
  | sp
  | i | r
  deriving DecidableEq, Repr

/-- The natural width of a register in bits (R59, R60). -/
def HostReg.width : HostReg → Nat
  | .a | .f | .b | .c | .d | .e | .h | .l => 8
  | .a' | .f' | .b' | .c' | .d' | .e' | .h' | .l' => 8
  | .af | .bc | .de | .hl => 16
  | .af' | .bc' | .de' | .hl' => 16
  | .ix | .iy => 16
  | .ixh | .ixl | .iyh | .iyl => 8
  | .sp => 16
  | .i | .r => 8

/-- `getRegisterValue(name)` (R60). -/
def State.getRegisterValue (s : State) : HostReg → Nat
  | .a => s.a.toNat
  | .f => s.f.pack.toNat
  | .b => s.b.toNat
  | .c => s.c.toNat
  | .d => s.d.toNat
  | .e => s.e.toNat
  | .h => s.h.toNat
  | .l => s.l.toNat
  | .a' => s.a'.toNat
  | .f' => s.f'.pack.toNat
  | .b' => s.b'.toNat
  | .c' => s.c'.toNat
  | .d' => s.d'.toNat
  | .e' => s.e'.toNat
  | .h' => s.h'.toNat
  | .l' => s.l'.toNat
  | .af => s.af.toNat
  | .bc => s.bc.toNat
  | .de => s.de.toNat
  | .hl => s.hl.toNat
  | .af' => (Word.ofBytes s.a' s.f'.pack).toNat
  | .bc' => (Word.ofBytes s.b' s.c').toNat
  | .de' => (Word.ofBytes s.d' s.e').toNat
  | .hl' => (Word.ofBytes s.h' s.l').toNat
  | .ix => s.ix.toNat
  | .iy => s.iy.toNat
  | .ixh => (s.getHalf .ix .high).toNat
  | .ixl => (s.getHalf .ix .low).toNat
  | .iyh => (s.getHalf .iy .high).toNat
  | .iyl => (s.getHalf .iy .low).toNat
  | .sp => s.sp.toNat
  | .i => s.i.toNat
  | .r => s.r.toNat

/-- `setRegisterValue(name, v)`: writes `v mod 2^w` (R60). -/
def State.setRegisterValue (s : State) (name : HostReg) (v : Int) : State :=
  let v8 : Byte := BitVec.ofInt 8 v
  let v16 : Word := BitVec.ofInt 16 v
  match name with
  | .a => { s with a := v8 }
  | .f => { s with f := Flags.unpack v8 }
  | .b => { s with b := v8 }
  | .c => { s with c := v8 }
  | .d => { s with d := v8 }
  | .e => { s with e := v8 }
  | .h => { s with h := v8 }
  | .l => { s with l := v8 }
  | .a' => { s with a' := v8 }
  | .f' => { s with f' := Flags.unpack v8 }
  | .b' => { s with b' := v8 }
  | .c' => { s with c' := v8 }
  | .d' => { s with d' := v8 }
  | .e' => { s with e' := v8 }
  | .h' => { s with h' := v8 }
  | .l' => { s with l' := v8 }
  | .af => s.setAf v16
  | .bc => s.setBc v16
  | .de => s.setDe v16
  | .hl => s.setHl v16
  | .af' => { s with a' := Word.hi v16, f' := Flags.unpack (Word.lo v16) }
  | .bc' => { s with b' := Word.hi v16, c' := Word.lo v16 }
  | .de' => { s with d' := Word.hi v16, e' := Word.lo v16 }
  | .hl' => { s with h' := Word.hi v16, l' := Word.lo v16 }
  | .ix => { s with ix := v16 }
  | .iy => { s with iy := v16 }
  | .ixh => s.setHalf .ix .high v8
  | .ixl => s.setHalf .ix .low v8
  | .iyh => s.setHalf .iy .high v8
  | .iyl => s.setHalf .iy .low v8
  | .sp => { s with sp := v16 }
  | .i => { s with i := v8 }
  | .r => { s with r := v8 }

/-! ## The other calls (60_exceptions.md R520) -/

/-- `reset()` (70_reset_and_hazards.md R530): neither `resetAddress`, the tables, the parameters nor memory change. -/
def State.resetCall (s : State) : State :=
  { s with
    a := 0, f := Flags.zero, b := 0, c := 0, d := 0, e := 0, h := 0, l := 0
    a' := 0, f' := Flags.zero, b' := 0, c' := 0, d' := 0, e' := 0, h' := 0, l' := 0
    ix := 0, iy := 0, sp := 0, i := 0, r := 0
    pc := s.resetAddress
    iff1 := false, iff2 := false
    tStates := 0
    halt := false, eidi := false, nmi := false, blockMove := false
    im := .im0 }

/-- `shallowReset()` (70_reset_and_hazards.md R533; decision D14). -/
def State.shallowReset (s : State) : State := { s with halt := false, pc := s.resetAddress, tStates := 0 }

/-- `getProgramCounter()` (R520). -/
def State.getProgramCounter (s : State) : Nat := s.pc.toNat

/-- `setProgramCounter(v)` (R520): does not clear `halt` (R521). -/
def State.setProgramCounter (s : State) (v : Int) : State := { s with pc := BitVec.ofInt 16 v }

/-- `setResetAddress(v)` (R520): takes effect at the next reset (R530; decision D28). -/
def State.setResetAddress (s : State) (v : Int) : State := { s with resetAddress := BitVec.ofInt 16 v }

/-- `setNMI()` (R520, 10_state.md R53). -/
def State.setNMI (s : State) : State := { s with nmi := true }

/-- `getHalt()` (R520). -/
def State.getHalt (s : State) : Bool := s.halt

/-- `blockMoveInProgress()` (R520). -/
def State.blockMoveInProgress (s : State) : Bool := s.blockMove

/-- `getTStates()` (R520). -/
def State.getTStates (s : State) : Nat := s.tStates

/-- `resetTStates()` (R520). -/
def State.resetTStates (s : State) : State := { s with tStates := 0 }

/-! ## Construction (70_reset_and_hazards.md R532) -/

/-- An engine with these parameters, this launch memory (20_memory.md R88) and these timing tables, in the state in
which construction ends. -/
def constructed (p : Params) (launch : Memory) (t : TimingTables) : State :=
  { State.reset with params := p, mem := launch, timing := t, resetAddress := 0 }.resetCall

/-- Construction from a `TIMING_SPEC`, which fails on a configuration error (R532, R566). -/
def construct (p : Params) (launch : Memory) (spec : List TimingEntry) : Except TimingConfigError State :=
  match buildTables spec with
  | .ok t => .ok (constructed p launch t)
  | .error e => .error e

end Sys2Proof.Machine
end

