-- ==== Sys2Proof/Safety.lean ====
section
/-! DEFINITION. What a claim about runs is stated in: the invariant, a completed step, a safe run, the run of a
caller that goes on after a fault (spec/60_exceptions.md R490 to R493, R507), and the words for what an instruction
changes and what it leaves alone. -/

namespace Sys2Proof.Machine

/-! ## Runs -/

/-- The invariant of the engine between steps: memory is in its canonical form and no block repeat is in progress
(10_state.md R54; decision D35). -/
def Inv (s : State) : Prop := Memory.wf s.mem = true ∧ s.blockMove = false

/-- The step returns `Continue` (R490). -/
def Completes (s : State) : Prop := ∃ t, step s = .next t

/-- `k` steps in a row return `Continue`. -/
def SafeRun : Nat → State → Prop
  | 0, _ => True
  | k + 1, s => ∃ t, step s = .next t ∧ SafeRun k t

/-- The state from which the caller may call again: the next state, or the one a fault leaves (R492). -/
def leaves : Out → Option State
  | .next s => some s
  | .fault (.unimplementedOpcode _ _ after) => some after
  | .fault (.timingUnset _ _ after) => some after
  | .fault (.endlessPrefixChain _) => none
  | .refused _ => none

/-- The step of a caller that goes on after UnimplementedOpcode and TimingUnset (R492). -/
def callerStep (s : State) : Option State := leaves (step s)

/-! ## Discarded prefixes (30_encoding.md R137) -/

/-- The byte at PC is a DD or FD that the step discards. -/
def State.discards (s : State) : Bool :=
  match decode s.bytesAtPc with
  | .ok i => i.isDiscarded && enabled s.params i
  | .error _ => false

/-- Behind a discarded byte: one byte fetched, R raised, 4 T-states charged (R137, 70_reset_and_hazards.md R567). -/
def State.behindDiscard (s : State) : State :=
  { s with
    pc := s.pc + 1
    r := (s.bumpR 1).r
    tStates := s.tStates + 4
    trace := .fetch s.pc (s.byteAt s.pc) :: s.trace }

/-- Behind `k` discarded bytes. -/
def State.behind : Nat → State → State
  | 0, s => s
  | k + 1, s => State.behind k s.behindDiscard

/-- The step discards the first `k` bytes from PC on, each of them a DD or FD. -/
def DiscardsFor : Nat → State → Prop
  | 0, _ => True
  | k + 1, s => s.discards = true ∧ DiscardsFor k s.behindDiscard

/-! ## What changes and what does not -/

/-- The parts of the state that a statement may name as changed. The block-repeat flag, the reset address, the timing
tables and the parameters are in no part: no instruction changes them. -/
inductive Part where
  | reg (r : Reg8)
  | f
  | shadow
  | ix
  | iy
  | sp
  | pc
  | i
  | r
  | iff1
  | iff2
  | halt
  | eidi
  | nmi
  | im
  | tStates
  | mem
  | trace
  | ioIn
  | draws
  deriving DecidableEq, Repr

/-- Everything but the named parts is the same in both states; memory, where it is not named, byte by byte. -/
def Unchanged (but : List Part) (s t : State) : Prop :=
  (∀ q, .reg q ∉ but → t.getReg q = s.getReg q)
  ∧ (.f ∉ but → t.f = s.f)
  ∧ (.shadow ∉ but → t.a' = s.a' ∧ t.f' = s.f' ∧ t.b' = s.b' ∧ t.c' = s.c' ∧ t.d' = s.d' ∧ t.e' = s.e'
      ∧ t.h' = s.h' ∧ t.l' = s.l')
  ∧ (.ix ∉ but → t.ix = s.ix)
  ∧ (.iy ∉ but → t.iy = s.iy)
  ∧ (.sp ∉ but → t.sp = s.sp)
  ∧ (.pc ∉ but → t.pc = s.pc)
  ∧ (.i ∉ but → t.i = s.i)
  ∧ (.r ∉ but → t.r = s.r)
  ∧ (.iff1 ∉ but → t.iff1 = s.iff1)
  ∧ (.iff2 ∉ but → t.iff2 = s.iff2)
  ∧ (.halt ∉ but → t.halt = s.halt)
  ∧ (.eidi ∉ but → t.eidi = s.eidi)
  ∧ (.nmi ∉ but → t.nmi = s.nmi)
  ∧ (.im ∉ but → t.im = s.im)
  ∧ (.tStates ∉ but → t.tStates = s.tStates)
  ∧ (.mem ∉ but → t.mem = s.mem ∧ ∀ a : Word, Memory.read t.mem a.toNat = Memory.read s.mem a.toNat)
  ∧ (.trace ∉ but → t.trace = s.trace)
  ∧ (.ioIn ∉ but → t.ioIn = s.ioIn)
  ∧ (.draws ∉ but → t.draws = s.draws)
  ∧ t.blockMove = s.blockMove ∧ t.resetAddress = s.resetAddress ∧ t.timing = s.timing ∧ t.params = s.params

/-- F after an instruction whose flag result is `f` with the marked bits of `mask`: all of `f` under `Exact`, the
unmarked bits of `f` under `Draw` too (00_scope.md R11). -/
def FlagsGive (mask f : Flags) (s t : State) : Prop :=
  (s.params.undocFlags = .exact → t.f = f)
  ∧ (mask.s = false → t.f.s = f.s)
  ∧ (mask.z = false → t.f.z = f.z)
  ∧ (mask.f5 = false → t.f.f5 = f.f5)
  ∧ (mask.h = false → t.f.h = f.h)
  ∧ (mask.f3 = false → t.f.f3 = f.f3)
  ∧ (mask.pv = false → t.f.pv = f.pv)
  ∧ (mask.n = false → t.f.n = f.n)
  ∧ (mask.c = false → t.f.c = f.c)

/-- The store of one byte: in plain RAM the byte at `a` reads as `v` and every other byte as before; under a
collaborator no cell of the engine's changes (20_memory.md R87). -/
def StoresByte (a : Word) (v : Byte) (s t : State) : Prop :=
  (s.params.memModel = .ram → Memory.wf s.mem = true →
    ∀ b : Word, Memory.read t.mem b.toNat = if b = a then v else Memory.read s.mem b.toNat)
  ∧ (s.params.memModel = .collaborator → t.mem = s.mem)

/-- The store of one word, low byte at `a`, high byte at `a + 1` modulo 2^16 (20_memory.md R82, R87). -/
def StoresWord (a v : Word) (s t : State) : Prop :=
  (s.params.memModel = .ram → Memory.wf s.mem = true →
    ∀ b : Word, Memory.read t.mem b.toNat =
      if b = a then Word.lo v else if b = a + 1 then Word.hi v else Memory.read s.mem b.toNat)
  ∧ (s.params.memModel = .collaborator → t.mem = s.mem)

/-- The fetch events of bytes from an address on, the last one first, as a trace holds them (20_memory.md R94, R100). -/
def fetchEvents (a : Word) : List Byte → List Event
  | [] => []
  | b :: bs => fetchEvents (a + 1) bs ++ [.fetch a b]

/-- R after `k` opcode-byte fetches: as before under `Static`, its low seven bits counted on under `M1`
(10_state.md R38). -/
def RefreshGives (k : Nat) (s t : State) : Prop :=
  (s.params.refresh = .static → t.r = s.r)
  ∧ (s.params.refresh = .m1 → bit t.r 7 = bit s.r 7 ∧ t.r.toNat % 128 = (s.r.toNat % 128 + k) % 128)

end Sys2Proof.Machine
end

