-- ==== Sys2Proof/Certificates/Slice0/Obligations.lean ====
section
/-! DEFINITION. The statements for the provers. Each docstring names the rules of spec/ a statement formalises.
First come the words they share: for each shape of instruction, its constructors with their operands, written from the
opcode map and the rules, not from the meanings. -/

namespace Sys2Proof.Machine.Claims

open Sys2Proof Sys2Proof.Machine

/-! ## Operand places -/

/-- A place that holds a byte: a register, an index half, I or R. -/
inductive Place where
  | reg (r : Reg8)
  | half (x : Idx) (k : Half)
  | vector
  | refresh
  deriving DecidableEq, Repr

/-- The byte in a place. -/
def Place.get (s : State) : Place → Byte
  | .reg r => s.getReg r
  | .half x k => s.getHalf x k
  | .vector => s.i
  | .refresh => s.r

/-- The parts of the state a place lies in. -/
def Place.parts : Place → List Part
  | .reg r => [.reg r]
  | .half .ix _ => [.ix]
  | .half .iy _ => [.iy]
  | .vector => [.i]
  | .refresh => [.r]

/-- A place that holds a word: a pair or SP, or an index register. -/
inductive WPlace where
  | rp (p : Rp)
  | idx (x : Idx)
  deriving DecidableEq, Repr

/-- The word in a place. -/
def WPlace.get (s : State) : WPlace → Word
  | .rp p => s.getRp p
  | .idx x => s.getIdx x

/-- The parts of the state a word place lies in. -/
def WPlace.parts : WPlace → List Part
  | .rp .bc => [.reg .b, .reg .c]
  | .rp .de => [.reg .d, .reg .e]
  | .rp .hl => [.reg .h, .reg .l]
  | .rp .sp => [.sp]
  | .idx .ix => [.ix]
  | .idx .iy => [.iy]

/-- The instruction that runs: the base instruction behind a DD or FD, else the instruction itself
(30_encoding.md R137). -/
def runs : Instr → Instr
  | .ddBase i => i
  | .fdBase i => i
  | i => i

/-! ## Shapes -/

/-- The 8-bit loads between registers and from an immediate: destination and value (41_load8.md R200, R201, R214 to
R217). -/
def loadForm : Instr → Option (Place × (State → Byte))
  | .ldIA => some (.vector, fun s => s.a)
  | .ldRA => some (.refresh, fun s => s.a)
  | .ldBIXH => some (.reg .b, fun s => s.getHalf .ix .high)
  | .ldIXHB => some (.half .ix .high, fun s => s.getReg .b)
  | .ldCIXH => some (.reg .c, fun s => s.getHalf .ix .high)
  | .ldIXHC => some (.half .ix .high, fun s => s.getReg .c)
  | .ldDIXH => some (.reg .d, fun s => s.getHalf .ix .high)
  | .ldIXHD => some (.half .ix .high, fun s => s.getReg .d)
  | .ldEIXH => some (.reg .e, fun s => s.getHalf .ix .high)
  | .ldIXHE => some (.half .ix .high, fun s => s.getReg .e)
  | .ldAIXH => some (.reg .a, fun s => s.getHalf .ix .high)
  | .ldIXHA => some (.half .ix .high, fun s => s.getReg .a)
  | .ldIXHIXH => some (.half .ix .high, fun s => s.getHalf .ix .high)
  | .ldIXHIXL => some (.half .ix .high, fun s => s.getHalf .ix .low)
  | .ldBIXL => some (.reg .b, fun s => s.getHalf .ix .low)
  | .ldIXLB => some (.half .ix .low, fun s => s.getReg .b)
  | .ldCIXL => some (.reg .c, fun s => s.getHalf .ix .low)
  | .ldIXLC => some (.half .ix .low, fun s => s.getReg .c)
  | .ldDIXL => some (.reg .d, fun s => s.getHalf .ix .low)
  | .ldIXLD => some (.half .ix .low, fun s => s.getReg .d)
  | .ldEIXL => some (.reg .e, fun s => s.getHalf .ix .low)
  | .ldIXLE => some (.half .ix .low, fun s => s.getReg .e)
  | .ldAIXL => some (.reg .a, fun s => s.getHalf .ix .low)
  | .ldIXLA => some (.half .ix .low, fun s => s.getReg .a)
  | .ldIXLIXH => some (.half .ix .low, fun s => s.getHalf .ix .high)
  | .ldIXLIXL => some (.half .ix .low, fun s => s.getHalf .ix .low)
  | .ldBIYH => some (.reg .b, fun s => s.getHalf .iy .high)
  | .ldIYHB => some (.half .iy .high, fun s => s.getReg .b)
  | .ldCIYH => some (.reg .c, fun s => s.getHalf .iy .high)
  | .ldIYHC => some (.half .iy .high, fun s => s.getReg .c)
  | .ldDIYH => some (.reg .d, fun s => s.getHalf .iy .high)
  | .ldIYHD => some (.half .iy .high, fun s => s.getReg .d)
  | .ldEIYH => some (.reg .e, fun s => s.getHalf .iy .high)
  | .ldIYHE => some (.half .iy .high, fun s => s.getReg .e)
  | .ldAIYH => some (.reg .a, fun s => s.getHalf .iy .high)
  | .ldIYHA => some (.half .iy .high, fun s => s.getReg .a)
  | .ldIYHIYH => some (.half .iy .high, fun s => s.getHalf .iy .high)
  | .ldIYHIYL => some (.half .iy .high, fun s => s.getHalf .iy .low)
  | .ldBIYL => some (.reg .b, fun s => s.getHalf .iy .low)
  | .ldIYLB => some (.half .iy .low, fun s => s.getReg .b)
  | .ldCIYL => some (.reg .c, fun s => s.getHalf .iy .low)
  | .ldIYLC => some (.half .iy .low, fun s => s.getReg .c)
  | .ldDIYL => some (.reg .d, fun s => s.getHalf .iy .low)
  | .ldIYLD => some (.half .iy .low, fun s => s.getReg .d)
  | .ldEIYL => some (.reg .e, fun s => s.getHalf .iy .low)
  | .ldIYLE => some (.half .iy .low, fun s => s.getReg .e)
  | .ldAIYL => some (.reg .a, fun s => s.getHalf .iy .low)
  | .ldIYLA => some (.half .iy .low, fun s => s.getReg .a)
  | .ldIYLIYH => some (.half .iy .low, fun s => s.getHalf .iy .high)
  | .ldIYLIYL => some (.half .iy .low, fun s => s.getHalf .iy .low)
  | .ldRR r r' => some (.reg r, fun s => s.getReg r')
  | .ldRN r n => some (.reg r, fun _ => n)
  | .ldIXHN n => some (.half .ix .high, fun _ => n)
  | .ldIXLN n => some (.half .ix .low, fun _ => n)
  | .ldIYHN n => some (.half .iy .high, fun _ => n)
  | .ldIYLN n => some (.half .iy .low, fun _ => n)
  | _ => none

/-- The 8-bit loads from memory: destination and address (41_load8.md R202, R205 to R207, R211). -/
def loadMemForm : Instr → Option (Reg8 × (State → Word))
  | .ldAMbc => some (.a, fun s => s.bc)
  | .ldAMde => some (.a, fun s => s.de)
  | .ldRMhl r => some (r, fun s => s.hl)
  | .ldAMnn nn => some (.a, fun _ => nn)
  | .ldRMixd r d => some (r, fun s => s.getIdx .ix + d.signExtend 16)
  | .ldRMiyd r d => some (r, fun s => s.getIdx .iy + d.signExtend 16)
  | _ => none

/-- The 8-bit stores: address and byte (41_load8.md R203, R204, R208 to R210, R212, R213). -/
def storeForm : Instr → Option ((State → Word) × (State → Byte))
  | .ldMbcA => some (fun s => s.bc, fun s => s.a)
  | .ldMdeA => some (fun s => s.de, fun s => s.a)
  | .ldMhlR r => some (fun s => s.hl, fun s => s.getReg r)
  | .ldMhlN n => some (fun s => s.hl, fun _ => n)
  | .ldMnnA nn => some (fun _ => nn, fun s => s.a)
  | .ldMixdR d r => some (fun s => s.getIdx .ix + d.signExtend 16, fun s => s.getReg r)
  | .ldMixdN d n => some (fun s => s.getIdx .ix + d.signExtend 16, fun _ => n)
  | .ldMiydR d r => some (fun s => s.getIdx .iy + d.signExtend 16, fun s => s.getReg r)
  | .ldMiydN d n => some (fun s => s.getIdx .iy + d.signExtend 16, fun _ => n)
  | _ => none

/-- The 16-bit loads between registers and from an immediate, and the 16-bit increments and decrements: destination and
value (42_load16_exchange.md R240, R241, R248, R249; 45_alu16.md R364 to R367). -/
def wordForm : Instr → Option (WPlace × (State → Word))
  | .ldSpHL => some (.rp .sp, fun s => s.hl)
  | .ldSpIX => some (.rp .sp, fun s => s.getIdx .ix)
  | .incIX => some (.idx .ix, fun s => s.getIdx .ix + 1)
  | .decIX => some (.idx .ix, fun s => s.getIdx .ix - 1)
  | .ldSpIY => some (.rp .sp, fun s => s.getIdx .iy)
  | .incIY => some (.idx .iy, fun s => s.getIdx .iy + 1)
  | .decIY => some (.idx .iy, fun s => s.getIdx .iy - 1)
  | .ldRpNn p nn => some (.rp p, fun _ => nn)
  | .incRp p => some (.rp p, fun s => s.getRp p + 1)
  | .decRp p => some (.rp p, fun s => s.getRp p - 1)
  | .ldIXNn nn => some (.idx .ix, fun _ => nn)
  | .ldIYNn nn => some (.idx .iy, fun _ => nn)
  | _ => none

/-- The 16-bit loads from memory: destination and address (42_load16_exchange.md R242 to R244). -/
def loadWordForm : Instr → Option (WPlace × Word)
  | .ldHLMnn nn => some (.rp .hl, nn)
  | .ldRpMnn p nn => some (.rp p, nn)
  | .ldIXMnn nn => some (.idx .ix, nn)
  | .ldIYMnn nn => some (.idx .iy, nn)
  | _ => none

/-- The 16-bit stores: address and word (42_load16_exchange.md R245 to R247). -/
def storeWordForm : Instr → Option (Word × (State → Word))
  | .ldMnnHL nn => some (nn, fun s => s.hl)
  | .ldMnnRp p nn => some (nn, fun s => s.getRp p)
  | .ldMnnIX nn => some (nn, fun s => s.ix)
  | .ldMnnIY nn => some (nn, fun s => s.iy)
  | _ => none

/-- The pushes: the word pushed (42_load16_exchange.md R250, R251). -/
def pushForm : Instr → Option (State → Word)
  | .pushIX => some (fun s => s.ix)
  | .pushIY => some (fun s => s.iy)
  | .pushQq .bc => some (fun s => s.bc)
  | .pushQq .de => some (fun s => s.de)
  | .pushQq .hl => some (fun s => s.hl)
  | .pushQq .af => some (fun s => Word.ofBytes s.a s.f.pack)
  | _ => none

/-- The pops into a pair other than AF: the destination (42_load16_exchange.md R252, R253). -/
def popForm : Instr → Option WPlace
  | .popIX => some (.idx .ix)
  | .popIY => some (.idx .iy)
  | .popQq .bc => some (.rp .bc)
  | .popQq .de => some (.rp .de)
  | .popQq .hl => some (.rp .hl)
  | _ => none

/-- The exchanges with the top of the stack: the register exchanged (42_load16_exchange.md R261, R264). -/
def exSpForm : Instr → Option WPlace
  | .exSpHL => some (.rp .hl)
  | .exSpIX => some (.idx .ix)
  | .exSpIY => some (.idx .iy)
  | _ => none

/-- A source operand of the accumulator group (44_alu8.md R320). -/
inductive Source where
  | reg (r : Reg8)
  | imm (n : Byte)
  | half (x : Idx) (k : Half)
  | mem (a : State → Word)

/-- The byte of a source operand (44_alu8.md R320). -/
def Source.value (s : State) : Source → Byte
  | .reg r => s.getReg r
  | .imm n => n
  | .half x k => s.getHalf x k
  | .mem a => s.byteAt (a s)

/-- The trace after a source operand is read: one read of a memory operand, nothing for the others. -/
def Source.traceAfter (s : State) : Source → List Event
  | .mem a => .read8 (a s) (s.byteAt (a s)) :: s.trace
  | _ => s.trace

/-- The accumulator group: operation and source operand (44_alu8.md R320 to R328). -/
def aluForm : Instr → Option (AluOp × Source)
  | .addMhl => some (.add, .mem fun s => s.hl)
  | .addIXH => some (.add, .half .ix .high)
  | .addIXL => some (.add, .half .ix .low)
  | .addIYH => some (.add, .half .iy .high)
  | .addIYL => some (.add, .half .iy .low)
  | .adcMhl => some (.adc, .mem fun s => s.hl)
  | .adcIXH => some (.adc, .half .ix .high)
  | .adcIXL => some (.adc, .half .ix .low)
  | .adcIYH => some (.adc, .half .iy .high)
  | .adcIYL => some (.adc, .half .iy .low)
  | .subMhl => some (.sub, .mem fun s => s.hl)
  | .subIXH => some (.sub, .half .ix .high)
  | .subIXL => some (.sub, .half .ix .low)
  | .subIYH => some (.sub, .half .iy .high)
  | .subIYL => some (.sub, .half .iy .low)
  | .sbcMhl => some (.sbc, .mem fun s => s.hl)
  | .sbcIXH => some (.sbc, .half .ix .high)
  | .sbcIXL => some (.sbc, .half .ix .low)
  | .sbcIYH => some (.sbc, .half .iy .high)
  | .sbcIYL => some (.sbc, .half .iy .low)
  | .andMhl => some (.and, .mem fun s => s.hl)
  | .andIXH => some (.and, .half .ix .high)
  | .andIXL => some (.and, .half .ix .low)
  | .andIYH => some (.and, .half .iy .high)
  | .andIYL => some (.and, .half .iy .low)
  | .xorMhl => some (.xor, .mem fun s => s.hl)
  | .xorIXH => some (.xor, .half .ix .high)
  | .xorIXL => some (.xor, .half .ix .low)
  | .xorIYH => some (.xor, .half .iy .high)
  | .xorIYL => some (.xor, .half .iy .low)
  | .orMhl => some (.or, .mem fun s => s.hl)
  | .orIXH => some (.or, .half .ix .high)
  | .orIXL => some (.or, .half .ix .low)
  | .orIYH => some (.or, .half .iy .high)
  | .orIYL => some (.or, .half .iy .low)
  | .cpMhl => some (.cp, .mem fun s => s.hl)
  | .cpIXH => some (.cp, .half .ix .high)
  | .cpIXL => some (.cp, .half .ix .low)
  | .cpIYH => some (.cp, .half .iy .high)
  | .cpIYL => some (.cp, .half .iy .low)
  | .addR r => some (.add, .reg r)
  | .addN n => some (.add, .imm n)
  | .addMixd d => some (.add, .mem fun s => s.getIdx .ix + d.signExtend 16)
  | .addMiyd d => some (.add, .mem fun s => s.getIdx .iy + d.signExtend 16)
  | .adcR r => some (.adc, .reg r)
  | .adcN n => some (.adc, .imm n)
  | .adcMixd d => some (.adc, .mem fun s => s.getIdx .ix + d.signExtend 16)
  | .adcMiyd d => some (.adc, .mem fun s => s.getIdx .iy + d.signExtend 16)
  | .subR r => some (.sub, .reg r)
  | .subN n => some (.sub, .imm n)
  | .subMixd d => some (.sub, .mem fun s => s.getIdx .ix + d.signExtend 16)
  | .subMiyd d => some (.sub, .mem fun s => s.getIdx .iy + d.signExtend 16)
  | .sbcR r => some (.sbc, .reg r)
  | .sbcN n => some (.sbc, .imm n)
  | .sbcMixd d => some (.sbc, .mem fun s => s.getIdx .ix + d.signExtend 16)
  | .sbcMiyd d => some (.sbc, .mem fun s => s.getIdx .iy + d.signExtend 16)
  | .andR r => some (.and, .reg r)
  | .andN n => some (.and, .imm n)
  | .andMixd d => some (.and, .mem fun s => s.getIdx .ix + d.signExtend 16)
  | .andMiyd d => some (.and, .mem fun s => s.getIdx .iy + d.signExtend 16)
  | .xorR r => some (.xor, .reg r)
  | .xorN n => some (.xor, .imm n)
  | .xorMixd d => some (.xor, .mem fun s => s.getIdx .ix + d.signExtend 16)
  | .xorMiyd d => some (.xor, .mem fun s => s.getIdx .iy + d.signExtend 16)
  | .orR r => some (.or, .reg r)
  | .orN n => some (.or, .imm n)
  | .orMixd d => some (.or, .mem fun s => s.getIdx .ix + d.signExtend 16)
  | .orMiyd d => some (.or, .mem fun s => s.getIdx .iy + d.signExtend 16)
  | .cpR r => some (.cp, .reg r)
  | .cpN n => some (.cp, .imm n)
  | .cpMixd d => some (.cp, .mem fun s => s.getIdx .ix + d.signExtend 16)
  | .cpMiyd d => some (.cp, .mem fun s => s.getIdx .iy + d.signExtend 16)
  | _ => none

/-- A destination of INC, DEC, a shift, RES or SET (44_alu8.md R329 to R336; 46_rotate_bit.md R384, R396): a byte place,
or memory with, in the undocumented forms, a register that receives a copy. -/
inductive Target where
  | place (p : Place)
  | mem (a : State → Word) (copy : Option Reg8)

/-- The byte of a destination before the instruction. -/
def Target.value (s : State) : Target → Byte
  | .place p => p.get s
  | .mem a _ => s.byteAt (a s)

/-- The parts of the state that writing a destination changes. -/
def Target.parts : Target → List Part
  | .place p => p.parts
  | .mem _ none => [.mem, .trace]
  | .mem _ (some r) => [.reg r, .mem, .trace]

/-- The destination holds `v` in `t`: a place and every other byte place as it was; a memory operand read once and then
written once, and the copy register. -/
def Target.Receives (s t : State) (v : Byte) : Target → Prop
  | .place p => p.get t = v ∧ ∀ q, q ≠ p → q.get t = q.get s
  | .mem a copy =>
    StoresByte (a s) v s t ∧ t.trace = .write8 (a s) v :: .read8 (a s) (s.byteAt (a s)) :: s.trace
      ∧ ∀ r, copy = some r → t.getReg r = v

/-- INC (true) and DEC (false): the destination (44_alu8.md R329 to R336). -/
def incDecForm : Instr → Option (Bool × Target)
  | .incMhl => some (true, .mem (fun s => s.hl) none)
  | .incIXH => some (true, .place (.half .ix .high))
  | .incIXL => some (true, .place (.half .ix .low))
  | .incIYH => some (true, .place (.half .iy .high))
  | .incIYL => some (true, .place (.half .iy .low))
  | .decMhl => some (false, .mem (fun s => s.hl) none)
  | .decIXH => some (false, .place (.half .ix .high))
  | .decIXL => some (false, .place (.half .ix .low))
  | .decIYH => some (false, .place (.half .iy .high))
  | .decIYL => some (false, .place (.half .iy .low))
  | .incR r => some (true, .place (.reg r))
  | .incMixd d => some (true, .mem (fun s => s.getIdx .ix + d.signExtend 16) none)
  | .incMiyd d => some (true, .mem (fun s => s.getIdx .iy + d.signExtend 16) none)
  | .decR r => some (false, .place (.reg r))
  | .decMixd d => some (false, .mem (fun s => s.getIdx .ix + d.signExtend 16) none)
  | .decMiyd d => some (false, .mem (fun s => s.getIdx .iy + d.signExtend 16) none)
  | _ => none

/-- The shifts and rotates of the CB spaces: kind and destination (46_rotate_bit.md R384 to R392, R396). -/
def shiftForm : Instr → Option (Rot × Target)
  | .rlcMhl => some (.rlc, .mem (fun s => s.hl) none)
  | .rrcMhl => some (.rrc, .mem (fun s => s.hl) none)
  | .rlMhl => some (.rl, .mem (fun s => s.hl) none)
  | .rrMhl => some (.rr, .mem (fun s => s.hl) none)
  | .slaMhl => some (.sla, .mem (fun s => s.hl) none)
  | .sraMhl => some (.sra, .mem (fun s => s.hl) none)
  | .sllMhl => some (.sll, .mem (fun s => s.hl) none)
  | .srlMhl => some (.srl, .mem (fun s => s.hl) none)
  | .rlcR r => some (.rlc, .place (.reg r))
  | .rlcMixd d => some (.rlc, .mem (fun s => s.getIdx .ix + d.signExtend 16) none)
  | .rlcMiyd d => some (.rlc, .mem (fun s => s.getIdx .iy + d.signExtend 16) none)
  | .rrcR r => some (.rrc, .place (.reg r))
  | .rrcMixd d => some (.rrc, .mem (fun s => s.getIdx .ix + d.signExtend 16) none)
  | .rrcMiyd d => some (.rrc, .mem (fun s => s.getIdx .iy + d.signExtend 16) none)
  | .rlR r => some (.rl, .place (.reg r))
  | .rlMixd d => some (.rl, .mem (fun s => s.getIdx .ix + d.signExtend 16) none)
  | .rlMiyd d => some (.rl, .mem (fun s => s.getIdx .iy + d.signExtend 16) none)
  | .rrR r => some (.rr, .place (.reg r))
  | .rrMixd d => some (.rr, .mem (fun s => s.getIdx .ix + d.signExtend 16) none)
  | .rrMiyd d => some (.rr, .mem (fun s => s.getIdx .iy + d.signExtend 16) none)
  | .slaR r => some (.sla, .place (.reg r))
  | .slaMixd d => some (.sla, .mem (fun s => s.getIdx .ix + d.signExtend 16) none)
  | .slaMiyd d => some (.sla, .mem (fun s => s.getIdx .iy + d.signExtend 16) none)
  | .sraR r => some (.sra, .place (.reg r))
  | .sraMixd d => some (.sra, .mem (fun s => s.getIdx .ix + d.signExtend 16) none)
  | .sraMiyd d => some (.sra, .mem (fun s => s.getIdx .iy + d.signExtend 16) none)
  | .sllR r => some (.sll, .place (.reg r))
  | .sllMixd d => some (.sll, .mem (fun s => s.getIdx .ix + d.signExtend 16) none)
  | .sllMiyd d => some (.sll, .mem (fun s => s.getIdx .iy + d.signExtend 16) none)
  | .srlR r => some (.srl, .place (.reg r))
  | .srlMixd d => some (.srl, .mem (fun s => s.getIdx .ix + d.signExtend 16) none)
  | .srlMiyd d => some (.srl, .mem (fun s => s.getIdx .iy + d.signExtend 16) none)
  | .rotMixdCopy k d r => some (k, .mem (fun s => s.getIdx .ix + d.signExtend 16) (some r))
  | .rotMiydCopy k d r => some (k, .mem (fun s => s.getIdx .iy + d.signExtend 16) (some r))
  | _ => none

/-- RES (false) and SET (true): bit and destination (46_rotate_bit.md R394 to R396). -/
def resSetForm : Instr → Option (Bool × Fin 8 × Target)
  | .resR b r => some (false, b, .place (.reg r))
  | .resMhl b => some (false, b, .mem (fun s => s.hl) none)
  | .resMixd b d => some (false, b, .mem (fun s => s.getIdx .ix + d.signExtend 16) none)
  | .resMixdCopy b d r => some (false, b, .mem (fun s => s.getIdx .ix + d.signExtend 16) (some r))
  | .resMiyd b d => some (false, b, .mem (fun s => s.getIdx .iy + d.signExtend 16) none)
  | .resMiydCopy b d r => some (false, b, .mem (fun s => s.getIdx .iy + d.signExtend 16) (some r))
  | .setR b r => some (true, b, .place (.reg r))
  | .setMhl b => some (true, b, .mem (fun s => s.hl) none)
  | .setMixd b d => some (true, b, .mem (fun s => s.getIdx .ix + d.signExtend 16) none)
  | .setMixdCopy b d r => some (true, b, .mem (fun s => s.getIdx .ix + d.signExtend 16) (some r))
  | .setMiyd b d => some (true, b, .mem (fun s => s.getIdx .iy + d.signExtend 16) none)
  | .setMiydCopy b d r => some (true, b, .mem (fun s => s.getIdx .iy + d.signExtend 16) (some r))
  | _ => none

/-- BIT: bit and tested operand (46_rotate_bit.md R393, R396). -/
def bitForm : Instr → Option (Fin 8 × Source)
  | .bitR b r => some (b, .reg r)
  | .bitMhl b => some (b, .mem fun s => s.hl)
  | .bitMixd b d => some (b, .mem fun s => s.getIdx .ix + d.signExtend 16)
  | .bitMixdAlias b d _ => some (b, .mem fun s => s.getIdx .ix + d.signExtend 16)
  | .bitMiyd b d => some (b, .mem fun s => s.getIdx .iy + d.signExtend 16)
  | .bitMiydAlias b d _ => some (b, .mem fun s => s.getIdx .iy + d.signExtend 16)
  | _ => none

/-- The accumulator rotates: the kind of shift (46_rotate_bit.md R380 to R383). -/
def rotateAForm : Instr → Option Rot
  | .rlca => some (.rlc)
  | .rrca => some (.rrc)
  | .rla => some (.rl)
  | .rra => some (.rr)
  | _ => none

/-- The 16-bit additions without carry: destination and operand (45_alu16.md R360, R361). -/
def add16Form : Instr → Option (WPlace × (State → Word))
  | .addHLRp p => some (.rp .hl, fun s => s.getRp p)
  | .addIXRp .bc => some (.idx .ix, fun s => s.bc)
  | .addIXRp .de => some (.idx .ix, fun s => s.de)
  | .addIXRp .xy => some (.idx .ix, fun s => s.getIdx .ix)
  | .addIXRp .sp => some (.idx .ix, fun s => s.sp)
  | .addIYRp .bc => some (.idx .iy, fun s => s.bc)
  | .addIYRp .de => some (.idx .iy, fun s => s.de)
  | .addIYRp .xy => some (.idx .iy, fun s => s.getIdx .iy)
  | .addIYRp .sp => some (.idx .iy, fun s => s.sp)
  | _ => none

/-- The unconditional jumps: the target, PC being past the instruction (47_control.md R421, R423, R426, R427). -/
def jumpForm : Instr → Option (State → Word)
  | .jpHL => some (fun s => s.hl)
  | .jpIX => some (fun s => s.ix)
  | .jpIY => some (fun s => s.iy)
  | .jpNn nn => some (fun _ => nn)
  | .jr e => some (fun s => s.pc + e.signExtend 16)
  | _ => none

/-- The test of a condition field (30_encoding.md R120). -/
def condHolds (f : Flags) : Cond → Bool
  | .nz => f.z == false
  | .z => f.z == true
  | .nc => f.c == false
  | .c => f.c == true
  | .po => f.pv == false
  | .pe => f.pv == true
  | .p => f.s == false
  | .m => f.s == true

/-- The condition field of JR cc is a condition field (30_encoding.md R120). -/
def jrCondOf : JrCond → Cond
  | .nz => .nz
  | .z => .z
  | .nc => .nc
  | .c => .c

/-- The conditional jumps: condition, target and opcode (47_control.md R422, R424). -/
def condJumpForm : Instr → Option (Cond × (State → Word) × Byte)
  | .jrCc jc e => some (jrCondOf jc, (fun s => s.pc + e.signExtend 16), BitVec.ofNat 8 (0x20 + 8 * (jrCondOf jc).field))
  | .jpCcNn cc nn => some (cc, (fun _ => nn), BitVec.ofNat 8 (0xC2 + 8 * cc.field))
  | _ => none

/-- The unconditional calls: the target (47_control.md R428, R432). -/
def callForm : Instr → Option Word
  | .callNn nn => some (nn)
  | .rst k => some (BitVec.ofNat 16 (8 * k.val))
  | _ => none

/-- The unconditional returns, and whether they restore IFF1 (47_control.md R430, R433, R434). -/
def retForm : Instr → Option Bool
  | .ret => some (false)
  | .retn => some (true)
  | .reti => some (true)
  | .retnAlias _ => some (true)
  | _ => none

/-- The interrupt-mode instructions (48_io_cpu.md R477 to R479). -/
def imForm : Instr → Option Im
  | .im0 => some (.im0)
  | .im1 => some (.im1)
  | .im2 => some (.im2)
  | .im1Alias => some (.im1)
  | .im2Alias => some (.im2)
  | .im0Alias _ => some (.im0)
  | _ => none

/-- The output instructions: port and byte (48_io_cpu.md R463 to R465; the byte of OUT (C),0 is a parameter, log 17). -/
def outForm : Instr → Option ((State → Word) × (State → Byte))
  | .outC0 => some (fun s => s.bc, fun s => s.params.outZero)
  | .outNA n => some (fun s => Word.ofBytes s.a n, fun s => s.a)
  | .outCR r => some (fun s => s.bc, fun s => s.getReg r)
  | _ => none

/-- The block copies: direction and opcode (43_block.md R284, R285). -/
def blockCopyForm : Instr → Option (Bool × Byte)
  | .ldir => some (true, 0xB0)
  | .lddr => some (false, 0xB8)
  | _ => none

/-- The block searches: direction and opcode (43_block.md R288, R289). -/
def blockSearchForm : Instr → Option (Bool × Byte)
  | .cpir => some (true, 0xB1)
  | .cpdr => some (false, 0xB9)
  | _ => none

/-- The block inputs (true) and outputs (false): direction and opcode (43_block.md R292, R293, R296, R298). -/
def blockIoForm : Instr → Option (Bool × Bool × Byte)
  | .inir => some (true, true, 0xB2)
  | .indr => some (true, false, 0xBA)
  | .otir => some (false, true, 0xB3)
  | .otdr => some (false, false, 0xBB)
  | _ => none

/-- `+1` for an incrementing block instruction, `-1` for a decrementing one. -/
def stepOf (up : Bool) : Word := if up then 1 else 0xFFFF

/-- The delta that an extra element or a taken branch charges: 0 where the entry is unset (70_reset_and_hazards.md
R568). -/
def deltaOf (t : TimingTable) (op : Byte) : Nat := (t[op.toNat]'op.isLt).getD 0

/-- The number of elements of a block copy: BC, and 65536 for BC = 0 (43_block.md R281). -/
def copyCount (s : State) : Nat := if s.bc = 0 then 65536 else s.bc.toNat

/-- The number of elements of a block input or output: B, and 256 for B = 0 (43_block.md R281). -/
def ioCount (s : State) : Nat := if s.b = 0 then 256 else s.b.toNat

/-- The bytes of the address space after the first `n` elements of a block copy, each of which reads what the ones before
it left (43_block.md R282 to R285). -/
def copied (up : Bool) : Nat → Word → Word → (Word → Byte) → Word → Byte
  | 0, _, _, g => g
  | n + 1, src, dst, g => copied up n (src + stepOf up) (dst + stepOf up) (fun a => if a = dst then g src else g a)

/-- The accesses of a block copy of these bytes, the last first (43_block.md R282, R283). -/
def copyEvents (up : Bool) : Word → Word → List Byte → List Event
  | _, _, [] => []
  | src, dst, v :: vs => copyEvents up (src + stepOf up) (dst + stepOf up) vs ++ [.write8 dst v, .read8 src v]

/-- The accesses of a block search through these bytes, the last first (43_block.md R286, R287). -/
def searchEvents (up : Bool) : Word → List Byte → List Event
  | _, [] => []
  | src, v :: vs => searchEvents up (src + stepOf up) vs ++ [.read8 src v]

/-- The accesses of a block input or output of these bytes, the last first: the port has B before it counts down for an
input and after for an output (43_block.md R290, R291, R294, R295). -/
def ioEvents (input up : Bool) (c : Byte) : Byte → Word → List Byte → List Event
  | _, _, [] => []
  | b, a, v :: vs =>
    ioEvents input up c (b - 1) (a + stepOf up) vs
      ++ (if input then [.write8 a v, .portIn (Word.ofBytes b c) v]
        else [.portOut (Word.ofBytes (b - 1) c) v, .read8 a v])

/-- No NMI is taken at the start of the step (60_exceptions.md R500). -/
def NoNmi (s : State) : Prop := s.eidi = true ∨ s.nmi = false

/-- The step from `s` runs `i` behind `k` discarded DD and FD bytes (30_encoding.md R127, R137). -/
def RunsBehind (k : Nat) (i : Instr) (s : State) : Prop :=
  DiscardsFor k s ∧ decode ((s.behind k).fetchedBytes 4) = .ok i ∧ i.isDiscarded = false

/-- The outcome of the step from `s` of which `o` is the outcome of the rest behind a discarded byte: a stop leaves T as
at the start of the whole step (log 12), and an endless chain starts at its first byte (log 11). -/
def wholeStep (s : State) (o : Out) : Out :=
  match o with
  | .fault (.unimplementedOpcode pc bytes after) =>
    .fault (.unimplementedOpcode pc bytes { after with tStates := s.tStates })
  | .fault (.timingUnset pc bytes after) => .fault (.timingUnset pc bytes { after with tStates := s.tStates })
  | .fault (.endlessPrefixChain _) => .fault (.endlessPrefixChain s.pc)
  | .next t => .next t
  | .refused r => .refused r

/-- The byte that makes a step read a second opcode byte (30_encoding.md R111). -/
def isPrefixByte (b : Byte) : Bool := b == 0xCB || b == 0xDD || b == 0xED || b == 0xFD

/-- How many bytes are fetched before the row is known (60_exceptions.md R492). -/
def bytesToDecide (b0 b1 : Byte) : Nat :=
  if isPrefixByte b0 then (if (b0 == 0xDD || b0 == 0xFD) && b1 == 0xCB then 4 else 2) else 1

/-- The DD and FD opcodes that are always implemented, 0xCB apart (30_encoding.md R134). -/
def documentedXY : List Byte :=
  [0x09, 0x19, 0x29, 0x39, 0x21, 0x22, 0x23, 0x2A, 0x2B, 0x24, 0x25, 0x26, 0x2C, 0x2D, 0x2E, 0x34, 0x35, 0x36]
    ++ [0x46, 0x4E, 0x56, 0x5E, 0x66, 0x6E, 0x7E, 0x70, 0x71, 0x72, 0x73, 0x74, 0x75, 0x77]
    ++ [0x44, 0x45, 0x4C, 0x4D, 0x54, 0x55, 0x5C, 0x5D, 0x60, 0x61, 0x62, 0x63, 0x64, 0x65, 0x67]
    ++ [0x68, 0x69, 0x6A, 0x6B, 0x6C, 0x6D, 0x6F, 0x7C, 0x7D]
    ++ [0x84, 0x85, 0x86, 0x8C, 0x8D, 0x8E, 0x94, 0x95, 0x96, 0x9C, 0x9D, 0x9E]
    ++ [0xA4, 0xA5, 0xA6, 0xAC, 0xAD, 0xAE, 0xB4, 0xB5, 0xB6, 0xBC, 0xBD, 0xBE]
    ++ [0xE1, 0xE3, 0xE5, 0xE9, 0xF9]

/-- The ED opcodes that `ED_UNDOC` enables (30_encoding.md R136). -/
def undocumentedED : List Byte :=
  [0x4C, 0x54, 0x5C, 0x64, 0x6C, 0x74, 0x7C, 0x55, 0x5D, 0x65, 0x6D, 0x75, 0x7D, 0x4E, 0x66, 0x6E, 0x76, 0x7E, 0x70, 0x71]

/-- The ED opcodes that raise UnimplementedOpcode under every setting (30_encoding.md R136). -/
def reservedED (op : Byte) : Bool :=
  op.toNat ≤ 0x3F || op == 0x77 || op == 0x7F || (0x80 ≤ op.toNat && op.toNat ≤ 0x9F)
    || (0xA4 ≤ op.toNat && op.toNat ≤ 0xA7) || (0xAC ≤ op.toNat && op.toNat ≤ 0xAF)
    || (0xB4 ≤ op.toNat && op.toNat ≤ 0xB7) || 0xBC ≤ op.toNat

end Sys2Proof.Machine.Claims

open Sys2Proof Sys2Proof.Machine Sys2Proof.Machine.Claims

/-- R530, R533: what `reset()` leaves from any state, and that `shallowReset()` changes halt, PC and T only. -/
def Obligations.ResetAndShallowReset : Prop :=
  ∀ s : State,
    (∀ n : HostReg, s.resetCall.getRegisterValue n = 0) ∧ s.resetCall.pc = s.resetAddress
    ∧ s.resetCall.iff1 = false ∧ s.resetCall.iff2 = false ∧ s.resetCall.tStates = 0
    ∧ s.resetCall.halt = false ∧ s.resetCall.eidi = false ∧ s.resetCall.nmi = false ∧ s.resetCall.blockMove = false
    ∧ s.resetCall.im = .im0
    ∧ s.resetCall.resetAddress = s.resetAddress ∧ s.resetCall.timing = s.timing ∧ s.resetCall.mem = s.mem
    ∧ s.resetCall.params = s.params
    ∧ s.shallowReset.halt = false ∧ s.shallowReset.pc = s.resetAddress ∧ s.shallowReset.tStates = 0
    ∧ Unchanged [.halt, .pc, .tStates] s s.shallowReset

/-- R532: construction with the default specification (R560) ends in the reset state; the launch memory is an input (R88). -/
def Obligations.ConstructionEndsInReset : Prop :=
  ∀ (p : Params) (launch : Memory),
    construct p launch defaultTimingSpec = .ok { State.reset with params := p, mem := launch }
    ∧ (∀ n : HostReg, State.reset.getRegisterValue n = 0)
    ∧ State.reset.pc = 0 ∧ State.reset.resetAddress = 0 ∧ State.reset.tStates = 0 ∧ State.reset.im = .im0
    ∧ State.reset.iff1 = false ∧ State.reset.iff2 = false ∧ State.reset.halt = false ∧ State.reset.eidi = false
    ∧ State.reset.nmi = false ∧ State.reset.blockMove = false

/-- R566: the two configuration errors, and that nothing else is one (log 21 for entries only part of whose sequences are usable). -/
def Obligations.TimingSpecAccepted : Prop :=
  ∀ spec : List TimingEntry,
    (∃ t, buildTables spec = .ok t) ↔
      ∀ e ∈ spec, targets e.pattern ≠ []
        ∧ ∀ c1 c2, e.counts = .two c1 c2 → ∀ x ∈ targets e.pattern, x.1 = .base ∨ x.1 = .ed

/-- R559: a set entry is never overwritten, in the primary and in the delta tables. -/
def Obligations.FirstPopulatedWins : Prop :=
  ∀ (t t' : TimingTables) (spec : List TimingEntry), buildOn t spec = .ok t' →
    (∀ (sp : Space) (op : Byte) (c : Nat),
      TimingTable.entry (t.primary sp) op = some c → TimingTable.entry (t'.primary sp) op = some c)
    ∧ (∀ (op : Byte) (c : Nat), TimingTable.entry t.baseAlt op = some c → TimingTable.entry t'.baseAlt op = some c)
    ∧ (∀ (op : Byte) (c : Nat), TimingTable.entry t.edAlt op = some c → TimingTable.entry t'.edAlt op = some c)

/-- R561 to R563: primary = min, delta = max - min, in the base and the ED space; one count in all five. -/
def Obligations.CountsSplit : Prop :=
  ∀ (b : Byte) (c c1 c2 : Nat),
    (isPrefixByte b = false →
      (∃ t, buildTables [⟨[.lit b], .two c1 c2⟩] = .ok t ∧ TimingTable.entry t.base b = some (min c1 c2)
        ∧ TimingTable.entry t.baseAlt b = some (max c1 c2 - min c1 c2))
      ∧ ∃ t, buildTables [⟨[.lit b], .one c⟩] = .ok t ∧ TimingTable.entry t.base b = some c
        ∧ TimingTable.entry t.baseAlt b = none)
    ∧ (∃ t, buildTables [⟨[.lit 0xED, .lit b], .two c1 c2⟩] = .ok t ∧ TimingTable.entry t.ed b = some (min c1 c2)
        ∧ TimingTable.entry t.edAlt b = some (max c1 c2 - min c1 c2))
    ∧ (∃ t, buildTables [⟨[.lit 0xED, .lit b], .one c⟩] = .ok t ∧ TimingTable.entry t.ed b = some c
        ∧ TimingTable.entry t.edAlt b = none)
    ∧ (∃ t, buildTables [⟨[.lit 0xCB, .lit b], .one c⟩] = .ok t ∧ TimingTable.entry t.cb b = some c)
    ∧ ∀ x : Byte, x = 0xDD ∨ x = 0xFD →
      (b ≠ 0xCB → ∃ t, buildTables [⟨[.lit x, .lit b], .one c⟩] = .ok t ∧ TimingTable.entry t.xy b = some c)
      ∧ ∃ t, buildTables [⟨[.lit x, .lit 0xCB, .off, .lit b], .one c⟩] = .ok t
          ∧ TimingTable.entry t.xycb b = some c

/-- R60: masked writes, the round trip, the pairs and their halves, and what a host write leaves alone. -/
def Obligations.HostRegisterRoundTrip : Prop :=
  ∀ (s : State) (n : HostReg) (v w : Int),
    (s.setRegisterValue n v).getRegisterValue n = (v % (2 ^ n.width : Nat)).toNat
    ∧ (∀ x ∈ [(HostReg.af, HostReg.a, HostReg.f), (.bc, .b, .c), (.de, .d, .e), (.hl, .h, .l), (.af', .a', .f'),
          (.bc', .b', .c'), (.de', .d', .e'), (.hl', .h', .l'), (.ix, .ixh, .ixl), (.iy, .iyh, .iyl)],
        (s.setRegisterValue x.1 v).getRegisterValue x.2.1 = (v % 65536).toNat / 256
        ∧ (s.setRegisterValue x.1 v).getRegisterValue x.2.2 = (v % 65536).toNat % 256
        ∧ ((s.setRegisterValue x.2.1 v).setRegisterValue x.2.2 w).getRegisterValue x.1
            = (v % 256).toNat * 256 + (w % 256).toNat)
    ∧ ((s.setRegisterValue n v).f = s.f ∨ n = .f ∨ n = .af)
    ∧ (s.setRegisterValue n v).iff1 = s.iff1 ∧ (s.setRegisterValue n v).iff2 = s.iff2
    ∧ (s.setRegisterValue n v).halt = s.halt ∧ (s.setRegisterValue n v).eidi = s.eidi
    ∧ (s.setRegisterValue n v).nmi = s.nmi ∧ (s.setRegisterValue n v).tStates = s.tStates

/-- R491, R127, R567: what a step adds around `exec`. The look-ahead of four bytes changes nothing (log 18). -/
def Obligations.StepRunsTheDecodedInstruction : Prop :=
  ∀ (s : State) (i : Instr) (c : Nat), NoNmi s →
    decode (s.fetchedBytes 4) = .ok i → i.isDiscarded = false → enabled s.params i = true →
    primaryCharge s.timing i (s.fetchedBytes 4) = some c →
    ∃ u, step s = exec i u ∧ u.pc = s.pc + BitVec.ofNat 16 i.length ∧ u.tStates = s.tStates + c ∧ u.eidi = false
      ∧ RefreshGives (if isPrefixByte (s.byteAt s.pc) then 2 else 1) s u
      ∧ u.trace = fetchEvents s.pc (s.fetchedBytes i.length) ++ s.trace
      ∧ Unchanged [.pc, .tStates, .eidi, .r, .trace] s u

/-- R137, R567: a discarded DD or FD costs 4 and decoding goes on at the byte behind it, in the same step. Model's choices: T after a stop behind the byte (log 12), the fault of an endless chain (log 11). -/
def Obligations.StepGoesOnBehindADiscardedByte : Prop :=
  ∀ (s : State) (i : Instr), NoNmi s →
    decode (s.fetchedBytes 4) = .ok i → i.isDiscarded = true → enabled s.params i = true →
    ∃ u, u.pc = s.pc + 1 ∧ u.tStates = s.tStates + 4 ∧ u.eidi = true ∧ RefreshGives 1 s u
      ∧ u.trace = .fetch s.pc (s.byteAt s.pc) :: s.trace
      ∧ Unchanged [.pc, .tStates, .eidi, .r, .trace] s u
      ∧ step s = wholeStep s (step u)

/-- R501: everything that `AcceptNMI()` does, and that the step ends with it. -/
def Obligations.NmiAcceptance : Prop :=
  ∀ s : State, s.eidi = false → s.nmi = true →
    ∃ t, step s = .next t ∧ t.nmi = false ∧ t.halt = false ∧ t.iff1 = false ∧ t.sp = s.sp - 2 ∧ t.pc = 0x0066
      ∧ t.tStates = s.tStates + s.params.nmiTStates
      ∧ RefreshGives 1 s t
      ∧ StoresWord (s.sp - 2)
          (if s.halt = true ∧ s.params.nmiHaltResume = .afterHalt then s.pc + 1 else s.pc) s t
      ∧ t.trace = .write16 (s.sp - 2)
          (if s.halt = true ∧ s.params.nmiHaltResume = .afterHalt then s.pc + 1 else s.pc) :: s.trace
      ∧ Unchanged [.nmi, .halt, .iff1, .sp, .pc, .tStates, .r, .mem, .trace] s t

/-- R500, R52: the latch suppresses one sampling, and only EI and DI set it. -/
def Obligations.EiDiLatchSuppressesOnce : Prop :=
  ∀ s t : State, step s = .next t →
    (s.eidi = true → t.nmi = s.nmi)
    ∧ (s.eidi = false → t.nmi = false)
    ∧ (NoNmi s → (∃ k i, RunsBehind k i s)
        ∧ ∀ k i, RunsBehind k i s → (t.eidi = true ↔ runs i = .ei ∨ runs i = .di))

/-- R492: when UnimplementedOpcode is raised, its info, and the state after it, behind discarded bytes too. Model's choices: the trace (log 8), where the state stands (log 9), T and info behind discarded bytes (log 12). -/
def Obligations.UnimplementedOpcode : Prop :=
  ∀ (s : State) (k : Nat), NoNmi s → DiscardsFor k s →
    (∀ i, decode ((s.behind k).fetchedBytes 4) = .ok i → enabled s.params i = false) →
    let u := s.behind k
    let n := bytesToDecide (u.byteAt u.pc) (u.fetch.byteAt (u.pc + 1))
    (u.byteAt u.pc = 0xED ∨ u.byteAt u.pc = 0xDD ∨ u.byteAt u.pc = 0xFD)
    ∧ ∃ after, step s = .fault (.unimplementedOpcode (s.pc + BitVec.ofNat 16 k) (u.fetchedBytes n) after)
      ∧ after.pc = s.pc + BitVec.ofNat 16 (k + n) ∧ after.tStates = s.tStates ∧ after.eidi = false
      ∧ RefreshGives (k + 2) s after
      ∧ after.trace = fetchEvents s.pc (s.fetchedBytes (k + n)) ++ s.trace
      ∧ Unchanged [.pc, .eidi, .r, .trace] s after

/-- R136 and R127: the reserved ED opcodes, and that no other first byte leads to a sequence without a row. -/
def Obligations.ReservedOpcodes : Prop :=
  (∀ op n1 n2 : Byte, (∀ i, decode [0xED, op, n1, n2] ≠ .ok i) ↔ reservedED op = true)
  ∧ ∀ b0 b1 b2 b3 : Byte, b0 ≠ 0xED → ∃ i, decode [b0, b1, b2, b3] = .ok i

/-- R134 to R138: which rows each of the three parameters enables. -/
def Obligations.UndocumentedRowsAreGated : Prop :=
  ∀ (p : Params) (b0 b1 b2 b3 : Byte) (i : Instr), decode [b0, b1, b2, b3] = .ok i →
    (enabled p i = true ↔
      ((b0 = 0xED ∧ b1 ∈ undocumentedED) → p.edUndoc = .execute)
      ∧ (((b0 = 0xDD ∨ b0 = 0xFD) ∧ b1 ≠ 0xCB ∧ b1 ∉ documentedXY) → p.ddfdUndoc = .execute)
      ∧ (((b0 = 0xDD ∨ b0 = 0xFD) ∧ b1 = 0xCB ∧ b3.toNat % 8 ≠ 6) → p.idxcbUndoc = .execute))

/-- R493: TimingUnset, with info and state as in R492, before the operand fetches (R567). Model's choices: logs 8, 9, 10, 12 and 24. -/
def Obligations.TimingUnset : Prop :=
  ∀ (s : State) (k : Nat) (i : Instr), NoNmi s → DiscardsFor k s →
    decode ((s.behind k).fetchedBytes 4) = .ok i → enabled s.params i = true →
    primaryCharge s.timing i ((s.behind k).fetchedBytes 4) = none →
    let u := s.behind k
    let n := bytesToDecide (u.byteAt u.pc) (u.fetch.byteAt (u.pc + 1))
    ∃ after, step s = .fault (.timingUnset (s.pc + BitVec.ofNat 16 k) (u.fetchedBytes n) after)
      ∧ after.pc = s.pc + BitVec.ofNat 16 (k + n) ∧ after.tStates = s.tStates ∧ after.eidi = false
      ∧ RefreshGives (k + if isPrefixByte (u.byteAt u.pc) then 2 else 1) s after
      ∧ after.trace = fetchEvents s.pc (s.fetchedBytes (k + n)) ++ s.trace
      ∧ Unchanged [.pc, .eidi, .r, .trace] s after

/-- R490, R494: the outcomes of a step; a step is never refused. Model's choices: the fault where the discarded bytes never end, so that the spec's step has no end (log 11), and T of a stop behind discarded bytes (log 12). -/
def Obligations.StepOutcomes : Prop :=
  ∀ s : State,
    ((∃ t, step s = .next t)
      ∨ (∃ pc bytes after, step s = .fault (.unimplementedOpcode pc bytes after) ∧ after.tStates = s.tStates)
      ∨ (∃ pc bytes after, step s = .fault (.timingUnset pc bytes after) ∧ after.tStates = s.tStates)
      ∨ (s.params.ddfdUndoc = .execute ∧ step s = .fault (.endlessPrefixChain s.pc)))
    ∧ ((∃ pc, step s = .fault (.endlessPrefixChain pc)) ↔ NoNmi s ∧ ∀ k, DiscardsFor k s)

/-- R494, R510: no instruction traps or needs a mode; with it what every instruction leaves alone. -/
def Obligations.EveryInstructionCompletes : Prop :=
  ∀ (i : Instr) (s : State), i.wellFormed = true →
    ∃ t, exec i s = .next t ∧ t.params = s.params ∧ t.timing = s.timing ∧ t.resetAddress = s.resetAddress
      ∧ t.nmi = s.nmi ∧ s.tStates ≤ t.tStates ∧ (s.halt = true → t.halt = true)

/-- R54 (blockMove is 0 at every step boundary) and the canonical form of memory (log 1), kept by every step. -/
def Obligations.InvariantKept : Prop :=
  ∀ s t : State, Inv s → callerStep s = some t → Inv t

/-- R530, R54: the invariant at `State.reset` (memory lists nothing, log 1). -/
def Obligations.InvariantAtReset : Prop :=
  Inv State.reset

/-- R564, R55, R50: the tables and the reset address are constant in a step, and T is monotone. -/
def Obligations.StepKeepsConstants : Prop :=
  ∀ s t : State, callerStep s = some t →
    t.timing = s.timing ∧ t.params = s.params ∧ t.resetAddress = s.resetAddress ∧ s.tStates ≤ t.tStates

/-- R33: the only instructions that reach the shadow set. -/
def Obligations.ShadowSetOnlyExchanged : Prop :=
  ∀ (i : Instr) (s t : State), exec i s = .next t →
    (runs i ≠ .exAfAf → t.a' = s.a' ∧ t.f' = s.f')
    ∧ (runs i ≠ .exx → t.b' = s.b' ∧ t.c' = s.c' ∧ t.d' = s.d' ∧ t.e' = s.e' ∧ t.h' = s.h' ∧ t.l' = s.l')

/-- R37, R49, R51 to R53, R56: the instructions that write each control register. -/
def Obligations.ControlStateWriters : Prop :=
  ∀ (i : Instr) (s t : State), exec i s = .next t →
    ((runs i ≠ .ei ∧ runs i ≠ .di ∧ retForm i ≠ some true) → t.iff1 = s.iff1)
    ∧ ((runs i ≠ .ei ∧ runs i ≠ .di) → t.iff2 = s.iff2 ∧ t.eidi = s.eidi)
    ∧ (imForm i = none → t.im = s.im)
    ∧ (i ≠ .ldIA → t.i = s.i)
    ∧ (runs i ≠ .halt → t.halt = s.halt)
    ∧ t.nmi = s.nmi

/-- R38: under `Static` R changes only by LD R,A (the host and reset apart). -/
def Obligations.RefreshRegister : Prop :=
  (∀ (i : Instr) (s t : State), s.params.refresh = .static → exec i s = .next t → i ≠ .ldRA → t.r = s.r)
  ∧ ∀ (k : Nat) (i : Instr) (s t : State), s.params.refresh = .static → step s = .next t → RunsBehind k i s →
      i ≠ .ldRA → t.r = s.r

/-- R110, R127 to R138: decoding the encoding of any well-formed instruction gives it back, every operand with it. -/
def Obligations.DecodeEncode : Prop :=
  ∀ (i : Instr) (rest : List Byte), i.wellFormed = true → decode (encode i ++ rest) = .ok i

/-- R127, R142: the decoder reads every bit, and what it reads is well-formed. -/
def Obligations.EncodeDecode : Prop :=
  ∀ (bs : List Byte) (i : Instr), decode bs = .ok i →
    i.wellFormed = true ∧ bs.take (encode i).length = encode i

/-- Words written out from the encoding lines of the rules named. -/
def Obligations.DecodeWords : Prop :=
  decode [0x3E, 0x0F] = .ok (.ldRN .a 0x0F)
  ∧ decode [0xC6, 0x01] = .ok (.addN 0x01)
  ∧ decode [0xDD, 0x7E, 0xFE] = .ok (.ldRMixd .a 0xFE)
  ∧ decode [0xED, 0x7B, 0x00, 0x40] = .ok (.ldRpMnn .sp 0x4000)
  ∧ decode [0xED, 0xB0] = .ok .ldir
  ∧ decode [0xCB, 0x47] = .ok (.bitR 0 .a)
  ∧ decode [0xDD, 0xCB, 0x00, 0x00] = .ok (.rotMixdCopy .rlc 0x00 .b)
  ∧ decode [0xED, 0x4D] = .ok .reti
  ∧ decode [0xDD, 0x00] = .ok (.ddBase .nop)
  ∧ decode [0xDD, 0xFD] = .ok (.ddDiscarded .fd)
  ∧ decode [0xED, 0x77] = .error (.undefinedED 0x77)

/-- R565: with the default table every opcode has a primary entry. -/
def Obligations.DefaultTimingIsComplete : Prop :=
  ∀ (i : Instr) (rest : List Byte), i.wellFormed = true →
    ∃ c, primaryCharge defaultTables i (encode i ++ rest) = some c ∧ 4 ≤ c ∧ c ≤ 23

/-- R200, R201, R214 to R217: result, completion and frame. -/
def Obligations.ByteLoads : Prop :=
  ∀ (i : Instr) (s : State) (p : Place) (v : State → Byte), loadForm i = some (p, v) →
    ∃ t, exec i s = .next t ∧ p.get t = v s ∧ (∀ q, q ≠ p → q.get t = q.get s) ∧ Unchanged p.parts s t

/-- R202, R205 to R207, R211: result, completion and frame; the address is that of R122 for the indexed forms. -/
def Obligations.ByteLoadsFromMemory : Prop :=
  ∀ (i : Instr) (s : State) (r : Reg8) (a : State → Word), loadMemForm i = some (r, a) →
    ∃ t, exec i s = .next t ∧ t.getReg r = s.byteAt (a s)
      ∧ t.trace = .read8 (a s) (s.byteAt (a s)) :: s.trace ∧ Unchanged [.reg r, .trace] s t

/-- R203, R204, R208 to R210, R212, R213: the store, completion and frame. -/
def Obligations.ByteStores : Prop :=
  ∀ (i : Instr) (s : State) (a : State → Word) (v : State → Byte), storeForm i = some (a, v) →
    ∃ t, exec i s = .next t ∧ StoresByte (a s) (v s) s t
      ∧ t.trace = .write8 (a s) (v s) :: s.trace ∧ Unchanged [.mem, .trace] s t

/-- R218, R219: value, flags, completion and frame. -/
def Obligations.LoadAFromIAndR : Prop :=
  ∀ s : State,
    (∃ t, exec .ldAI s = .next t ∧ t.a = s.i
      ∧ FlagsGive Flags.undocF53 ⟨bit s.i 7, s.i == 0, bit s.i 5, false, bit s.i 3, s.iff2, false, s.f.c⟩ s t
      ∧ Unchanged [.reg .a, .f, .draws] s t)
    ∧ (∃ t, exec .ldAR s = .next t ∧ t.a = s.r
      ∧ FlagsGive Flags.undocF53 ⟨bit s.r 7, s.r == 0, bit s.r 5, false, bit s.r 3, s.iff2, false, s.f.c⟩ s t
      ∧ Unchanged [.reg .a, .f, .draws] s t)

/-- R240, R241, R248, R249, R364 to R367: result, completion and frame; no flag changes. -/
def Obligations.WordLoadsAndSteps : Prop :=
  ∀ (i : Instr) (s : State) (p : WPlace) (v : State → Word), wordForm i = some (p, v) →
    ∃ t, exec i s = .next t ∧ p.get t = v s ∧ (∀ q, q ≠ p → q.get t = q.get s) ∧ Unchanged p.parts s t

/-- R242 to R244 with R82 and R83: result, completion and frame. -/
def Obligations.WordLoadsFromMemory : Prop :=
  ∀ (i : Instr) (s : State) (p : WPlace) (a : Word), loadWordForm i = some (p, a) →
    ∃ t, exec i s = .next t ∧ p.get t = Word.ofBytes (s.byteAt (a + 1)) (s.byteAt a)
      ∧ (∀ q, q ≠ p → q.get t = q.get s)
      ∧ t.trace = .read16 a (Word.ofBytes (s.byteAt (a + 1)) (s.byteAt a)) :: s.trace
      ∧ Unchanged (.trace :: p.parts) s t

/-- R245 to R247 with R82 and R83: the store, completion and frame. -/
def Obligations.WordStores : Prop :=
  ∀ (i : Instr) (s : State) (a : Word) (v : State → Word), storeWordForm i = some (a, v) →
    ∃ t, exec i s = .next t ∧ StoresWord a (v s) s t ∧ t.trace = .write16 a (v s) :: s.trace
      ∧ Unchanged [.mem, .trace] s t

/-- R250, R251, R86: the push, completion and frame. -/
def Obligations.Pushes : Prop :=
  ∀ (i : Instr) (s : State) (v : State → Word), pushForm i = some v →
    ∃ t, exec i s = .next t ∧ t.sp = s.sp - 2 ∧ StoresWord (s.sp - 2) (v s) s t
      ∧ t.trace = .write16 (s.sp - 2) (v s) :: s.trace ∧ Unchanged [.sp, .mem, .trace] s t

/-- R252, R253, R86: the pop, completion and frame; POP AF writes all eight bits of F. -/
def Obligations.Pops : Prop :=
  (∀ (i : Instr) (s : State) (p : WPlace), popForm i = some p →
    ∃ t, exec i s = .next t ∧ p.get t = Word.ofBytes (s.byteAt (s.sp + 1)) (s.byteAt s.sp) ∧ t.sp = s.sp + 2
      ∧ (∀ q, q ≠ p → q ≠ .rp .sp → q.get t = q.get s)
      ∧ t.trace = .read16 s.sp (Word.ofBytes (s.byteAt (s.sp + 1)) (s.byteAt s.sp)) :: s.trace
      ∧ Unchanged (.sp :: .trace :: p.parts) s t)
  ∧ ∀ s : State,
    ∃ t, exec (.popQq .af) s = .next t ∧ t.a = s.byteAt (s.sp + 1) ∧ t.f.pack = s.byteAt s.sp ∧ t.sp = s.sp + 2
      ∧ t.trace = .read16 s.sp (Word.ofBytes (s.byteAt (s.sp + 1)) (s.byteAt s.sp)) :: s.trace
      ∧ Unchanged [.reg .a, .f, .sp, .trace] s t

/-- R260, R262, R263: the three register exchanges, completion and frame. -/
def Obligations.Exchanges : Prop :=
  ∀ s : State,
    (∃ t, exec .exDeHL s = .next t ∧ t.de = s.hl ∧ t.hl = s.de
      ∧ Unchanged [.reg .d, .reg .e, .reg .h, .reg .l] s t)
    ∧ (∃ t, exec .exAfAf s = .next t ∧ t.a = s.a' ∧ t.f = s.f' ∧ t.a' = s.a ∧ t.f' = s.f
      ∧ t.b' = s.b' ∧ t.c' = s.c' ∧ t.d' = s.d' ∧ t.e' = s.e' ∧ t.h' = s.h' ∧ t.l' = s.l'
      ∧ Unchanged [.reg .a, .f, .shadow] s t)
    ∧ (∃ t, exec .exx s = .next t ∧ t.b = s.b' ∧ t.c = s.c' ∧ t.d = s.d' ∧ t.e = s.e' ∧ t.h = s.h' ∧ t.l = s.l'
      ∧ t.b' = s.b ∧ t.c' = s.c ∧ t.d' = s.d ∧ t.e' = s.e ∧ t.h' = s.h ∧ t.l' = s.l ∧ t.a' = s.a' ∧ t.f' = s.f'
      ∧ Unchanged [.reg .b, .reg .c, .reg .d, .reg .e, .reg .h, .reg .l, .shadow] s t)

/-- R261, R264: the exchange, completion and frame. -/
def Obligations.ExchangesWithTheStack : Prop :=
  ∀ (i : Instr) (s : State) (p : WPlace), exSpForm i = some p →
    ∃ t, exec i s = .next t ∧ p.get t = Word.ofBytes (s.byteAt (s.sp + 1)) (s.byteAt s.sp)
      ∧ (∀ q, q ≠ p → q.get t = q.get s)
      ∧ StoresWord s.sp (p.get s) s t
      ∧ t.trace = .write16 s.sp (p.get s)
          :: .read16 s.sp (Word.ofBytes (s.byteAt (s.sp + 1)) (s.byteAt s.sp)) :: s.trace
      ∧ Unchanged (.mem :: .trace :: p.parts) s t

/-- R162 to R164: result and every flag, with both forms of PV. -/
def Obligations.AddSubtractFlags : Prop :=
  ∀ (a b : Byte) (cin : Bool),
    ((add8 a b cin).1.toNat = (a.toNat + b.toNat + cin.toNat) % 256
      ∧ (add8 a b cin).2.s = bit (add8 a b cin).1 7 ∧ ((add8 a b cin).2.z = true ↔ (add8 a b cin).1 = 0)
      ∧ (add8 a b cin).2.f5 = bit (add8 a b cin).1 5 ∧ (add8 a b cin).2.f3 = bit (add8 a b cin).1 3
      ∧ ((add8 a b cin).2.h = true ↔ 16 ≤ (a &&& 0x0F).toNat + (b &&& 0x0F).toNat + cin.toNat)
      ∧ ((add8 a b cin).2.pv = true ↔ ¬(-128 ≤ a.toInt + b.toInt + cin.toNat ∧ a.toInt + b.toInt + cin.toNat ≤ 127))
      ∧ (add8 a b cin).2.pv = bit ((a ^^^ (add8 a b cin).1) &&& (b ^^^ (add8 a b cin).1)) 7
      ∧ (add8 a b cin).2.n = false ∧ ((add8 a b cin).2.c = true ↔ 256 ≤ a.toNat + b.toNat + cin.toNat))
    ∧ (((sub8 a b cin).1.toNat : Int) = ((a.toNat : Int) - b.toNat - cin.toNat) % 256
      ∧ (sub8 a b cin).2.s = bit (sub8 a b cin).1 7 ∧ ((sub8 a b cin).2.z = true ↔ (sub8 a b cin).1 = 0)
      ∧ (sub8 a b cin).2.f5 = bit (sub8 a b cin).1 5 ∧ (sub8 a b cin).2.f3 = bit (sub8 a b cin).1 3
      ∧ ((sub8 a b cin).2.h = true ↔ ((a &&& 0x0F).toNat : Int) - (b &&& 0x0F).toNat - cin.toNat < 0)
      ∧ ((sub8 a b cin).2.pv = true ↔ ¬(-128 ≤ a.toInt - b.toInt - cin.toNat ∧ a.toInt - b.toInt - cin.toNat ≤ 127))
      ∧ (sub8 a b cin).2.pv = bit ((a ^^^ b) &&& (a ^^^ (sub8 a b cin).1)) 7
      ∧ (sub8 a b cin).2.n = true ∧ ((sub8 a b cin).2.c = true ↔ (a.toNat : Int) - b.toNat - cin.toNat < 0))
    ∧ (cp8 a b).s = (sub8 a b false).2.s ∧ (cp8 a b).z = (sub8 a b false).2.z ∧ (cp8 a b).f5 = bit b 5
    ∧ (cp8 a b).h = (sub8 a b false).2.h ∧ (cp8 a b).f3 = bit b 3 ∧ (cp8 a b).pv = (sub8 a b false).2.pv
    ∧ (cp8 a b).n = true ∧ (cp8 a b).c = (sub8 a b false).2.c

/-- R161, R165 to R167: parity by the number of 1 bits, and every flag of the logical operations. -/
def Obligations.LogicFlags : Prop :=
  ∀ a b : Byte,
    (parity a = true ↔ ((List.range 8).filter fun k => bit a k).length % 2 = 0)
    ∧ (∀ x ∈ [(and8 a b, a &&& b, true), (or8 a b, a ||| b, false), (xor8 a b, a ^^^ b, false)],
        x.1.1 = x.2.1 ∧ x.1.2.s = bit x.2.1 7 ∧ (x.1.2.z = true ↔ x.2.1 = 0) ∧ x.1.2.f5 = bit x.2.1 5
        ∧ x.1.2.h = x.2.2 ∧ x.1.2.f3 = bit x.2.1 3
        ∧ (x.1.2.pv = true ↔ ((List.range 8).filter fun k => bit x.2.1 k).length % 2 = 0)
        ∧ x.1.2.n = false ∧ x.1.2.c = false)

/-- R320 to R328: operand forms, result, flags, completion and frame. -/
def Obligations.AccumulatorGroup : Prop :=
  ∀ (i : Instr) (s : State) (op : AluOp) (src : Source), aluForm i = some (op, src) →
    ∃ t, exec i s = .next t
      ∧ (match op with
          | .add => (t.a, t.f) = add8 s.a (src.value s) false
          | .adc => (t.a, t.f) = add8 s.a (src.value s) s.f.c
          | .sub => (t.a, t.f) = sub8 s.a (src.value s) false
          | .sbc => (t.a, t.f) = sub8 s.a (src.value s) s.f.c
          | .and => (t.a, t.f) = and8 s.a (src.value s)
          | .xor => (t.a, t.f) = xor8 s.a (src.value s)
          | .or => (t.a, t.f) = or8 s.a (src.value s)
          | .cp => t.a = s.a ∧ t.f = cp8 s.a (src.value s))
      ∧ t.trace = src.traceAfter s ∧ Unchanged [.reg .a, .f, .trace] s t

/-- R329 to R336 with R168 and R169: result, flags, completion and frame. -/
def Obligations.IncrementDecrement : Prop :=
  ∀ (i : Instr) (s : State) (up : Bool) (tgt : Target), incDecForm i = some (up, tgt) →
    let v := tgt.value s
    let res : Byte := if up then v + 1 else v - 1
    ∃ t, exec i s = .next t ∧ tgt.Receives s t res
      ∧ FlagsGive Flags.undocF53
          ⟨bit res 7, res == 0, bit res 5, if up then v &&& 0x0F == 0x0F else v &&& 0x0F == 0x00, bit res 3,
            if up then v == 0x7F else v == 0x80, !up, s.f.c⟩ s t
      ∧ Unchanged (.f :: .draws :: tgt.parts) s t

/-- R178, R337 to R341: result, flags, completion and frame. -/
def Obligations.AccumulatorAdjust : Prop :=
  ∀ s : State,
    (let corr := (if s.f.h = true ∨ 9 < s.a.toNat % 16 then 6 else 0)
        + (if s.f.c = true ∨ 0x99 < s.a.toNat then 0x60 else 0)
      ∃ t, exec .daa s = .next t
        ∧ t.a.toNat = (if s.f.n = true then s.a.toNat + 256 - corr else s.a.toNat + corr) % 256
        ∧ t.f.s = bit t.a 7 ∧ (t.f.z = true ↔ t.a = 0) ∧ t.f.f5 = bit t.a 5
        ∧ (t.f.h = true ↔ if s.f.n = true then s.f.h = true ∧ s.a.toNat % 16 < 6 else 9 < s.a.toNat % 16)
        ∧ t.f.f3 = bit t.a 3 ∧ t.f.pv = parity t.a ∧ t.f.n = s.f.n
        ∧ (t.f.c = true ↔ s.f.c = true ∨ 0x99 < s.a.toNat)
        ∧ Unchanged [.reg .a, .f] s t)
    ∧ (∃ t, exec .cpl s = .next t ∧ t.a = ~~~s.a
        ∧ FlagsGive Flags.undocF53 ⟨s.f.s, s.f.z, bit (~~~s.a) 5, true, bit (~~~s.a) 3, s.f.pv, true, s.f.c⟩ s t
        ∧ Unchanged [.reg .a, .f, .draws] s t)
    ∧ (∀ i, i = .neg ∨ (∃ y, i = .negAlias y) →
        ∃ t, exec i s = .next t ∧ t.a = 0 - s.a ∧ t.f.s = bit t.a 7 ∧ (t.f.z = true ↔ s.a = 0) ∧ t.f.f5 = bit t.a 5
          ∧ (t.f.h = true ↔ s.a &&& 0x0F ≠ 0) ∧ t.f.f3 = bit t.a 3 ∧ (t.f.pv = true ↔ s.a = 0x80) ∧ t.f.n = true
          ∧ (t.f.c = true ↔ s.a ≠ 0) ∧ Unchanged [.reg .a, .f] s t)
    ∧ (∃ t, exec .scf s = .next t
        ∧ FlagsGive Flags.undocF53 ⟨s.f.s, s.f.z, bit s.a 5, false, bit s.a 3, s.f.pv, false, true⟩ s t
        ∧ Unchanged [.f, .draws] s t)
    ∧ (∃ t, exec .ccf s = .next t
        ∧ FlagsGive Flags.undocF53 ⟨s.f.s, s.f.z, bit s.a 5, s.f.c, bit s.a 3, s.f.pv, false, !s.f.c⟩ s t
        ∧ Unchanged [.f, .draws] s t)

/-- R170 to R172: result and every flag, with both forms of PV. -/
def Obligations.WordArithmeticFlags : Prop :=
  ∀ (a b : Word) (f : Flags) (cin : Bool),
    ((add16 a b f).1.toNat = (a.toNat + b.toNat) % 65536
      ∧ (add16 a b f).2.s = f.s ∧ (add16 a b f).2.z = f.z ∧ (add16 a b f).2.pv = f.pv
      ∧ (add16 a b f).2.f5 = (add16 a b f).1.getLsbD 13 ∧ (add16 a b f).2.f3 = (add16 a b f).1.getLsbD 11
      ∧ ((add16 a b f).2.h = true ↔ 0x1000 ≤ (a &&& 0x0FFF).toNat + (b &&& 0x0FFF).toNat)
      ∧ (add16 a b f).2.n = false ∧ ((add16 a b f).2.c = true ↔ 65536 ≤ a.toNat + b.toNat))
    ∧ ((adc16 a b cin).1.toNat = (a.toNat + b.toNat + cin.toNat) % 65536
      ∧ (adc16 a b cin).2.s = (adc16 a b cin).1.getLsbD 15 ∧ ((adc16 a b cin).2.z = true ↔ (adc16 a b cin).1 = 0)
      ∧ (adc16 a b cin).2.f5 = (adc16 a b cin).1.getLsbD 13 ∧ (adc16 a b cin).2.f3 = (adc16 a b cin).1.getLsbD 11
      ∧ ((adc16 a b cin).2.h = true ↔ 0x1000 ≤ (a &&& 0x0FFF).toNat + (b &&& 0x0FFF).toNat + cin.toNat)
      ∧ ((adc16 a b cin).2.pv = true ↔
          ¬(-32768 ≤ a.toInt + b.toInt + cin.toNat ∧ a.toInt + b.toInt + cin.toNat ≤ 32767))
      ∧ (adc16 a b cin).2.pv = ((a ^^^ (adc16 a b cin).1) &&& (b ^^^ (adc16 a b cin).1)).getLsbD 15
      ∧ (adc16 a b cin).2.n = false ∧ ((adc16 a b cin).2.c = true ↔ 65536 ≤ a.toNat + b.toNat + cin.toNat))
    ∧ (((sbc16 a b cin).1.toNat : Int) = ((a.toNat : Int) - b.toNat - cin.toNat) % 65536
      ∧ (sbc16 a b cin).2.s = (sbc16 a b cin).1.getLsbD 15 ∧ ((sbc16 a b cin).2.z = true ↔ (sbc16 a b cin).1 = 0)
      ∧ (sbc16 a b cin).2.f5 = (sbc16 a b cin).1.getLsbD 13 ∧ (sbc16 a b cin).2.f3 = (sbc16 a b cin).1.getLsbD 11
      ∧ ((sbc16 a b cin).2.h = true ↔ ((a &&& 0x0FFF).toNat : Int) - (b &&& 0x0FFF).toNat - cin.toNat < 0)
      ∧ ((sbc16 a b cin).2.pv = true ↔
          ¬(-32768 ≤ a.toInt - b.toInt - cin.toNat ∧ a.toInt - b.toInt - cin.toNat ≤ 32767))
      ∧ (sbc16 a b cin).2.pv = ((a ^^^ b) &&& (a ^^^ (sbc16 a b cin).1)).getLsbD 15
      ∧ (sbc16 a b cin).2.n = true ∧ ((sbc16 a b cin).2.c = true ↔ (a.toNat : Int) - b.toNat - cin.toNat < 0))

/-- R360 to R363: result, flags, completion and frame; the flags are those of R170 to R172. -/
def Obligations.WordArithmetic : Prop :=
  (∀ (i : Instr) (s : State) (p : WPlace) (v : State → Word), add16Form i = some (p, v) →
    ∃ t, exec i s = .next t ∧ p.get t = p.get s + v s ∧ FlagsGive Flags.undocF53 (add16 (p.get s) (v s) s.f).2 s t
      ∧ (∀ q, q ≠ p → q.get t = q.get s) ∧ Unchanged (.f :: .draws :: p.parts) s t)
  ∧ ∀ (s : State) (p : Rp),
    (∃ t, exec (.adcHLRp p) s = .next t ∧ t.hl = s.hl + s.getRp p + (if s.f.c then 1 else 0)
      ∧ FlagsGive Flags.undocF53 (adc16 s.hl (s.getRp p) s.f.c).2 s t
      ∧ Unchanged [.reg .h, .reg .l, .f, .draws] s t)
    ∧ (∃ t, exec (.sbcHLRp p) s = .next t ∧ t.hl = s.hl - s.getRp p - (if s.f.c then 1 else 0)
      ∧ FlagsGive Flags.undocF53 (sbc16 s.hl (s.getRp p) s.f.c).2 s t
      ∧ Unchanged [.reg .h, .reg .l, .f, .draws] s t)

/-- R173 to R175: the shift table with the shifts written as there, and the two flag rules. -/
def Obligations.ShiftTable : Prop :=
  ∀ (v : Byte) (cin cout : Bool) (f : Flags),
    shift .rlc v cin = ((v <<< 1) ||| (v >>> 7), bit v 7)
    ∧ shift .rrc v cin = ((v >>> 1) ||| (v <<< 7), bit v 0)
    ∧ shift .rl v cin = ((v <<< 1) ||| BitVec.ofNat 8 cin.toNat, bit v 7)
    ∧ shift .rr v cin = ((v >>> 1) ||| (BitVec.ofNat 8 cin.toNat <<< 7), bit v 0)
    ∧ shift .sla v cin = (v <<< 1, bit v 7)
    ∧ shift .sra v cin = ((v >>> 1) ||| (v &&& 0x80), bit v 0)
    ∧ shift .sll v cin = ((v <<< 1) ||| 1, bit v 7)
    ∧ shift .srl v cin = (v >>> 1, bit v 0)
    ∧ shiftFlags v cout = ⟨bit v 7, v == 0, bit v 5, false, bit v 3, parity v, false, cout⟩
    ∧ rotAFlags v cout f = ⟨f.s, f.z, bit v 5, false, bit v 3, f.pv, false, cout⟩

/-- R380 to R392, R396: result, flags, completion and frame; the shift and its flags are those of R173 to R175. -/
def Obligations.ShiftsAndRotates : Prop :=
  (∀ (i : Instr) (s : State) (k : Rot) (tgt : Target), shiftForm i = some (k, tgt) →
    let r := shift k (tgt.value s) s.f.c
    ∃ t, exec i s = .next t ∧ tgt.Receives s t r.1 ∧ FlagsGive Flags.undocF53 (shiftFlags r.1 r.2) s t
      ∧ Unchanged (.f :: .draws :: tgt.parts) s t)
  ∧ ∀ (i : Instr) (s : State) (k : Rot), rotateAForm i = some k →
    let r := shift k s.a s.f.c
    ∃ t, exec i s = .next t ∧ t.a = r.1 ∧ FlagsGive Flags.undocF53 (rotAFlags r.1 r.2 s.f) s t
      ∧ Unchanged [.reg .a, .f, .draws] s t

/-- R176, R393, R396: flags, completion and frame. -/
def Obligations.BitTests : Prop :=
  ∀ (i : Instr) (s : State) (b : Fin 8) (src : Source), bitForm i = some (b, src) →
    let v := src.value s
    ∃ t, exec i s = .next t
      ∧ (t.f.s = true ↔ b = 7 ∧ v &&& ((1 : Byte) <<< b.val) ≠ 0) ∧ (t.f.z = true ↔ v &&& ((1 : Byte) <<< b.val) = 0)
      ∧ t.f.f5 = bit v 5 ∧ t.f.h = true ∧ t.f.f3 = bit v 3 ∧ (t.f.pv = true ↔ v &&& ((1 : Byte) <<< b.val) = 0)
      ∧ t.f.n = false ∧ t.f.c = s.f.c
      ∧ t.trace = src.traceAfter s ∧ Unchanged [.f, .trace] s t

/-- R177, R394 to R396: result, completion and frame. -/
def Obligations.BitResetsAndSets : Prop :=
  ∀ (i : Instr) (s : State) (set : Bool) (b : Fin 8) (tgt : Target), resSetForm i = some (set, b, tgt) →
    ∃ t, exec i s = .next t ∧ Unchanged tgt.parts s t
      ∧ tgt.Receives s t (if set then tgt.value s ||| ((1 : Byte) <<< b.val) else tgt.value s &&& ~~~((1 : Byte) <<< b.val))

/-- R397, R398: the digits, flags, completion and frame. -/
def Obligations.DigitRotates : Prop :=
  ∀ s : State,
    let m := s.byteAt s.hl
    (∃ t, exec .rld s = .next t ∧ t.a = (s.a &&& 0xF0) ||| (m >>> 4)
      ∧ StoresByte s.hl ((m <<< 4) ||| (s.a &&& 0x0F)) s t
      ∧ t.trace = .write8 s.hl ((m <<< 4) ||| (s.a &&& 0x0F)) :: .read8 s.hl m :: s.trace
      ∧ FlagsGive Flags.undocF53 ⟨bit t.a 7, t.a == 0, bit t.a 5, false, bit t.a 3, parity t.a, false, s.f.c⟩ s t
      ∧ Unchanged [.reg .a, .f, .draws, .mem, .trace] s t)
    ∧ (∃ t, exec .rrd s = .next t ∧ t.a = (s.a &&& 0xF0) ||| (m &&& 0x0F)
      ∧ StoresByte s.hl (((s.a &&& 0x0F) <<< 4) ||| (m >>> 4)) s t
      ∧ t.trace = .write8 s.hl (((s.a &&& 0x0F) <<< 4) ||| (m >>> 4)) :: .read8 s.hl m :: s.trace
      ∧ FlagsGive Flags.undocF53 ⟨bit t.a 7, t.a == 0, bit t.a 5, false, bit t.a 3, parity t.a, false, s.f.c⟩ s t
      ∧ Unchanged [.reg .a, .f, .draws, .mem, .trace] s t)

/-- R420 to R427: targets, conditions, charges, completion and frame; PC enters past the instruction. -/
def Obligations.Jumps : Prop :=
  (∀ (i : Instr) (s : State) (target : State → Word), jumpForm i = some target →
    ∃ t, exec i s = .next t ∧ t.pc = target s ∧ Unchanged [.pc] s t)
  ∧ (∀ (i : Instr) (s : State) (cc : Cond) (target : State → Word) (op : Byte),
    condJumpForm i = some (cc, target, op) →
    ∃ t, exec i s = .next t ∧ Unchanged [.pc, .tStates] s t
      ∧ t.pc = (if condHolds s.f cc then target s else s.pc)
      ∧ t.tStates = s.tStates + (if condHolds s.f cc then deltaOf s.timing.baseAlt op else 0))
  ∧ ∀ (s : State) (e : Byte),
    ∃ t, exec (.djnz e) s = .next t ∧ t.b = s.b - 1 ∧ Unchanged [.reg .b, .pc, .tStates] s t
      ∧ t.pc = (if t.b = 0 then s.pc else s.pc + e.signExtend 16)
      ∧ t.tStates = s.tStates + (if t.b = 0 then 0 else deltaOf s.timing.baseAlt 0x10)

/-- R428 to R434: stack, PC, IFF1, charges, completion and frame. -/
def Obligations.CallsAndReturns : Prop :=
  (∀ (i : Instr) (s : State) (target : Word), callForm i = some target →
    ∃ t, exec i s = .next t ∧ t.pc = target ∧ t.sp = s.sp - 2 ∧ StoresWord (s.sp - 2) s.pc s t
      ∧ t.trace = .write16 (s.sp - 2) s.pc :: s.trace ∧ Unchanged [.pc, .sp, .mem, .trace] s t)
  ∧ (∀ (i : Instr) (s : State) (restores : Bool), retForm i = some restores →
    ∃ t, exec i s = .next t ∧ t.pc = Word.ofBytes (s.byteAt (s.sp + 1)) (s.byteAt s.sp) ∧ t.sp = s.sp + 2
      ∧ t.iff1 = (if restores then s.iff2 else s.iff1)
      ∧ t.trace = .read16 s.sp (Word.ofBytes (s.byteAt (s.sp + 1)) (s.byteAt s.sp)) :: s.trace
      ∧ Unchanged [.pc, .sp, .iff1, .trace] s t)
  ∧ (∀ (s : State) (cc : Cond) (nn : Word),
    ∃ t, exec (.callCcNn cc nn) s = .next t
      ∧ (condHolds s.f cc = true →
          t.pc = nn ∧ t.sp = s.sp - 2 ∧ StoresWord (s.sp - 2) s.pc s t
          ∧ t.trace = .write16 (s.sp - 2) s.pc :: s.trace
          ∧ t.tStates = s.tStates + deltaOf s.timing.baseAlt (BitVec.ofNat 8 (0xC4 + 8 * cc.field))
          ∧ Unchanged [.pc, .sp, .mem, .trace, .tStates] s t)
      ∧ (condHolds s.f cc = false → Unchanged [] s t))
  ∧ ∀ (s : State) (cc : Cond),
    ∃ t, exec (.retCc cc) s = .next t
      ∧ (condHolds s.f cc = true →
          t.pc = Word.ofBytes (s.byteAt (s.sp + 1)) (s.byteAt s.sp) ∧ t.sp = s.sp + 2
          ∧ t.trace = .read16 s.sp (Word.ofBytes (s.byteAt (s.sp + 1)) (s.byteAt s.sp)) :: s.trace
          ∧ t.tStates = s.tStates + deltaOf s.timing.baseAlt (BitVec.ofNat 8 (0xC0 + 8 * cc.field))
          ∧ Unchanged [.pc, .sp, .trace, .tStates] s t)
      ∧ (condHolds s.f cc = false → Unchanged [] s t)

/-- R460 to R465 with R90 to R92: ports, values, flags, completion and frame. Model's choices: the list of port answers and the free answer behind it (log 6), the byte of OUT (C),0 as a parameter, 0x00 in R465 (log 17), the trace (log 8). -/
def Obligations.InputAndOutput : Prop :=
  (∀ (s : State) (n : Byte),
    let v := s.ioIn.headD (Config.ioAnswer s.trace (Word.ofBytes s.a n))
    ∃ t, exec (.inAN n) s = .next t ∧ t.a = v ∧ t.ioIn = s.ioIn.tail
      ∧ t.trace = .portIn (Word.ofBytes s.a n) v :: s.trace ∧ Unchanged [.reg .a, .ioIn, .trace] s t)
  ∧ (∀ (s : State) (i : Instr) (dst : Option Reg8), (i = .inFC ∧ dst = none) ∨ (∃ r, i = .inRC r ∧ dst = some r) →
    let v := s.ioIn.headD (Config.ioAnswer s.trace s.bc)
    ∃ t, exec i s = .next t ∧ (∀ r, dst = some r → t.getReg r = v) ∧ t.ioIn = s.ioIn.tail
      ∧ t.trace = .portIn s.bc v :: s.trace
      ∧ FlagsGive Flags.undocF53 ⟨bit v 7, v == 0, bit v 5, false, bit v 3, parity v, false, s.f.c⟩ s t
      ∧ Unchanged (dst.toList.map Part.reg ++ [.f, .draws, .ioIn, .trace]) s t)
  ∧ ∀ (i : Instr) (s : State) (port : State → Word) (v : State → Byte), outForm i = some (port, v) →
    ∃ t, exec i s = .next t ∧ t.trace = .portOut (port s) (v s) :: s.trace ∧ Unchanged [.trace] s t

/-- R470, R474 to R479: effect, completion and frame. -/
def Obligations.CpuControl : Prop :=
  (∀ s : State,
    (∃ t, exec .nop s = .next t ∧ Unchanged [] s t)
    ∧ (∃ t, exec .halt s = .next t ∧ t.halt = true ∧ t.pc = s.pc - 1 ∧ Unchanged [.halt, .pc] s t)
    ∧ (∃ t, exec .di s = .next t ∧ t.iff1 = false ∧ t.iff2 = false ∧ t.eidi = true
        ∧ Unchanged [.iff1, .iff2, .eidi] s t)
    ∧ (∃ t, exec .ei s = .next t ∧ t.iff1 = true ∧ t.iff2 = true ∧ t.eidi = true
        ∧ Unchanged [.iff1, .iff2, .eidi] s t))
  ∧ ∀ (i : Instr) (s : State) (m : Im), imForm i = some m →
    ∃ t, exec i s = .next t ∧ t.im = m ∧ Unchanged [.im] s t

/-- R282, R283, R286, R287: the element, flags, completion and frame. -/
def Obligations.BlockElements : Prop :=
  ∀ (s : State) (up : Bool),
    let m := s.byteAt s.hl
    (∃ t, exec (if up then .ldi else .ldd) s = .next t
      ∧ t.hl = s.hl + stepOf up ∧ t.de = s.de + stepOf up ∧ t.bc = s.bc - 1 ∧ StoresByte s.de m s t
      ∧ t.trace = .write8 s.de m :: .read8 s.hl m :: s.trace
      ∧ FlagsGive Flags.undocF53
          ⟨s.f.s, s.f.z, bit (s.a + m) 1, false, bit (s.a + m) 3, s.bc - 1 != 0, false, s.f.c⟩ s t
      ∧ Unchanged [.reg .b, .reg .c, .reg .d, .reg .e, .reg .h, .reg .l, .f, .draws, .mem, .trace] s t)
    ∧ (∃ t, exec (if up then .cpi else .cpd) s = .next t
      ∧ t.hl = s.hl + stepOf up ∧ t.bc = s.bc - 1 ∧ t.trace = .read8 s.hl m :: s.trace
      ∧ (let u := s.a - m - (if (sub8 s.a m false).2.h then 1 else 0)
        FlagsGive Flags.undocF53
          ⟨bit (s.a - m) 7, s.a - m == 0, bit u 1, (sub8 s.a m false).2.h, bit u 3, s.bc - 1 != 0, true, s.f.c⟩ s t)
      ∧ Unchanged [.reg .b, .reg .c, .reg .h, .reg .l, .f, .draws, .trace] s t)

/-- R290, R291, R294, R295, R297: the element, port, flags, completion and frame. Model's choices: the list of port answers and the free answer behind it (log 6), the trace (log 8). -/
def Obligations.BlockIoElements : Prop :=
  ∀ (s : State) (up : Bool),
    (let v := s.ioIn.headD (Config.ioAnswer s.trace s.bc)
      let k := v.toNat + (if up then s.c + 1 else s.c - 1).toNat
      ∃ t, exec (if up then .ini else .ind) s = .next t
        ∧ t.b = s.b - 1 ∧ t.hl = s.hl + stepOf up ∧ StoresByte s.hl v s t ∧ t.ioIn = s.ioIn.tail
        ∧ t.trace = .write8 s.hl v :: .portIn s.bc v :: s.trace
        ∧ FlagsGive Flags.undocBlockIo
            ⟨bit t.b 7, t.b == 0, bit t.b 5, decide (255 < k), bit t.b 3, t.b != 0, bit v 7, decide (255 < k)⟩ s t
        ∧ Unchanged [.reg .b, .reg .h, .reg .l, .f, .draws, .mem, .ioIn, .trace] s t)
    ∧ (let v := s.byteAt s.hl
      let k := v.toNat + (Word.lo (s.hl + stepOf up)).toNat
      ∃ t, exec (if up then .outi else .outd) s = .next t
        ∧ t.b = s.b - 1 ∧ t.hl = s.hl + stepOf up
        ∧ t.trace = .portOut (Word.ofBytes (s.b - 1) s.c) v :: .read8 s.hl v :: s.trace
        ∧ FlagsGive Flags.undocBlockIo
            ⟨bit t.b 7, t.b == 0, bit t.b 5, decide (255 < k), bit t.b 3, t.b != 0, bit v 7, decide (255 < k)⟩ s t
        ∧ Unchanged [.reg .b, .reg .h, .reg .l, .f, .draws, .trace] s t)

/-- R280, R281, R284, R285: the whole repeat; the premise that no repeat is in progress is the invariant of InvariantKept. -/
def Obligations.BlockCopyRegisters : Prop :=
  ∀ (i : Instr) (s : State) (up : Bool) (op : Byte), blockCopyForm i = some (up, op) → s.blockMove = false →
    let n := copyCount s
    ∃ t v, exec i s = .next t ∧ t.bc = 0
      ∧ t.hl = s.hl + stepOf up * BitVec.ofNat 16 n ∧ t.de = s.de + stepOf up * BitVec.ofNat 16 n
      ∧ t.tStates = s.tStates + (n - 1) * deltaOf s.timing.edAlt op ∧ RefreshGives (2 * (n - 1)) s t
      ∧ t.trace.head? = some (.write8 (s.de + stepOf up * BitVec.ofNat 16 (n - 1)) v)
      ∧ FlagsGive Flags.undocF53
          ⟨s.f.s, s.f.z, bit (s.a + v) 1, false, bit (s.a + v) 3, false, false, s.f.c⟩ s t
      ∧ t.trace.length = s.trace.length + 2 * n
      ∧ Unchanged [.reg .b, .reg .c, .reg .d, .reg .e, .reg .h, .reg .l, .f, .draws, .tStates, .r, .mem, .trace] s t

/-- R284, R285 with R281: what the whole repeat does to memory, overlapping blocks and the collaborator included. Model's choices: the trace (log 8), the free answers of a memory collaborator (log 7). -/
def Obligations.BlockCopyMemory : Prop :=
  ∀ (i : Instr) (s : State) (up : Bool) (op : Byte), blockCopyForm i = some (up, op) → s.blockMove = false →
    let n := copyCount s
    let src := fun j : Nat => s.hl + stepOf up * BitVec.ofNat 16 j
    let dst := fun j : Nat => s.de + stepOf up * BitVec.ofNat 16 j
    let before := fun a : Word => Memory.read s.mem a.toNat
    ∃ t vs, exec i s = .next t ∧ vs.length = n ∧ t.trace = copyEvents up s.hl s.de vs ++ s.trace
      ∧ (s.params.memModel = .ram → Memory.wf s.mem = true →
          (∀ b : Word, Memory.read t.mem b.toNat = copied up n s.hl s.de before b)
          ∧ (∀ j v, vs[j]? = some v → v = copied up j s.hl s.de before (src j))
          ∧ (∀ b : Word, (∀ j, j < n → b ≠ dst j) → Memory.read t.mem b.toNat = before b)
          ∧ ((∀ j k, j < n → k < n → dst j ≠ src k) →
              ∀ j, j < n → Memory.read t.mem (dst j).toNat = before (src j))
          ∧ (s.de = s.hl + stepOf up → ∀ j, j < n → Memory.read t.mem (dst j).toNat = before s.hl))
      ∧ (s.params.memModel = .collaborator →
          t.mem = s.mem
          ∧ ∀ j v, vs[j]? = some v →
              v = Config.memAnswer (copyEvents up s.hl s.de (vs.take j) ++ s.trace) (src j))

/-- R280, R281, R288, R289: the whole repeat; the premise that no repeat is in progress is the invariant of InvariantKept. Model's choices: the trace (log 8), the free answers of a memory collaborator (log 7). -/
def Obligations.BlockSearch : Prop :=
  ∀ (i : Instr) (s : State) (up : Bool) (op : Byte), blockSearchForm i = some (up, op) → s.blockMove = false →
    let src := fun j : Nat => s.hl + stepOf up * BitVec.ofNat 16 j
    ∃ t vs v, exec i s = .next t ∧
      let n := vs.length + 1
      n ≤ 65536
      ∧ t.bc = s.bc - BitVec.ofNat 16 n ∧ t.hl = s.hl + stepOf up * BitVec.ofNat 16 n
      ∧ (t.bc = 0 ∨ v = s.a) ∧ (∀ w ∈ vs, w ≠ s.a) ∧ (∀ j, j + 1 < n → s.bc - BitVec.ofNat 16 (j + 1) ≠ 0)
      ∧ t.trace = searchEvents up s.hl (vs ++ [v]) ++ s.trace
      ∧ (s.params.memModel = .ram → ∀ j w, (vs ++ [v])[j]? = some w → w = Memory.read s.mem (src j).toNat)
      ∧ (s.params.memModel = .collaborator → ∀ j w, (vs ++ [v])[j]? = some w →
          w = Config.memAnswer (searchEvents up s.hl (vs.take j) ++ s.trace) (src j))
      ∧ (let u := s.a - v - (if (sub8 s.a v false).2.h then 1 else 0)
        FlagsGive Flags.undocF53
          ⟨bit (s.a - v) 7, v == s.a, bit u 1, (sub8 s.a v false).2.h, bit u 3, t.bc != 0, true, s.f.c⟩ s t)
      ∧ t.tStates = s.tStates + (n - 1) * deltaOf s.timing.edAlt op ∧ RefreshGives (2 * (n - 1)) s t
      ∧ Unchanged [.reg .b, .reg .c, .reg .h, .reg .l, .f, .draws, .tStates, .r, .trace] s t

/-- R280, R281, R292, R293, R296, R298: the whole repeat; the premise that no repeat is in progress is the invariant of InvariantKept. Model's choices: the list of port answers and the free answer behind it (log 6), the free answers of a memory collaborator (log 7), the trace (log 8). -/
def Obligations.BlockInputOutput : Prop :=
  ∀ (i : Instr) (s : State) (input up : Bool) (op : Byte), blockIoForm i = some (input, up, op) → s.blockMove = false →
    let n := ioCount s
    let adr := fun j : Nat => s.hl + stepOf up * BitVec.ofNat 16 j
    let done := fun vs : List Byte => ioEvents input up s.c s.b s.hl vs ++ s.trace
    ∃ t vs v, exec i s = .next t ∧ t.b = 0 ∧ t.hl = s.hl + stepOf up * BitVec.ofNat 16 n
      ∧ vs.length = n ∧ vs.getLast? = some v ∧ t.trace = done vs
      ∧ (∀ j w, vs[j]? = some w →
          (input = true →
            w = (s.ioIn.drop j).headD
              (Config.ioAnswer (done (vs.take j)) (Word.ofBytes (s.b - BitVec.ofNat 8 j) s.c)))
          ∧ (input = false → s.params.memModel = .ram → w = Memory.read s.mem (adr j).toNat)
          ∧ (input = false → s.params.memModel = .collaborator →
              w = Config.memAnswer (done (vs.take j)) (adr j)))
      ∧ (input = true → s.params.memModel = .ram → Memory.wf s.mem = true →
          (∀ j w, vs[j]? = some w → Memory.read t.mem (adr j).toNat = w)
          ∧ ∀ a : Word, (∀ j, j < n → a ≠ adr j) → Memory.read t.mem a.toNat = Memory.read s.mem a.toNat)
      ∧ (s.params.memModel = .collaborator → t.mem = s.mem)
      ∧ t.ioIn = (if input then s.ioIn.drop n else s.ioIn)
      ∧ (let k := v.toNat + (if input then (if up then s.c + 1 else s.c - 1) else Word.lo t.hl).toNat
        FlagsGive Flags.undocBlockIo
          ⟨false, true, false, decide (255 < k), false, false, bit v 7, decide (255 < k)⟩ s t)
      ∧ t.tStates = s.tStates + (n - 1) * deltaOf s.timing.edAlt op ∧ RefreshGives (2 * (n - 1)) s t
      ∧ Unchanged ((if input then [.mem, .ioIn] else [])
          ++ [.reg .b, .reg .h, .reg .l, .f, .draws, .tStates, .r, .trace]) s t

/-- R137: H, L, HL and (HL) unsubstituted behind DD or FD; a discarded byte. -/
def Obligations.FallThrough : Prop :=
  (∀ (i : Instr) (s : State), i.fallsThrough = true →
    (∃ t, exec (.ddBase i) s = .next t ∧ exec i s = .next t) ∧ (∃ t, exec (.fdBase i) s = .next t ∧ exec i s = .next t))
  ∧ ∀ (w : NextByte) (s : State),
    (∃ t, exec (.ddDiscarded w) s = .next t ∧ Unchanged [] s t)
    ∧ ∃ t, exec (.fdDiscarded w) s = .next t ∧ Unchanged [] s t
end

