-- ==== Sys2Proof/Laws/Memory.lean ====
section
/-! SUPPORT. Memory: every write keeps the canonical form, a read after a write, and equal reads mean equal
memories. -/

namespace Sys2Proof.Machine

/-- A memory listed from `lo` on is listed from any lower address on. -/
theorem Memory.wfFrom_mono {lo lo' : Nat} (h : lo' ≤ lo) : ∀ {m : Memory}, Memory.wfFrom lo m = true →
    Memory.wfFrom lo' m = true
  | [], _ => rfl
  | (k, v) :: m, hm => by
    simp only [Memory.wfFrom, Bool.and_eq_true, decide_eq_true_eq] at hm ⊢
    exact ⟨⟨⟨by omega, hm.1.1.2⟩, hm.1.2⟩, hm.2⟩

/-- An address below every listed one reads as unlisted. -/
theorem Memory.read_below {lo a : Nat} (ha : a < lo) : ∀ {m : Memory}, Memory.wfFrom lo m = true →
    Memory.read m a = Memory.unlisted
  | [], _ => rfl
  | (k, v) :: m, hm => by
    simp only [Memory.wfFrom, Bool.and_eq_true, decide_eq_true_eq] at hm
    have hk : k ≠ a := by omega
    simp only [Memory.read, if_neg hk]
    exact Memory.read_below (lo := k + 1) (by omega) hm.2

/-- `Memory.cons` in front of a memory listed above it. -/
theorem Memory.wfFrom_cons {lo a : Nat} {v : Byte} {m : Memory} (hlo : lo ≤ a) (ha : a < 65536)
    (hm : Memory.wfFrom (a + 1) m = true) : Memory.wfFrom lo (Memory.cons a v m) = true := by
  unfold Memory.cons
  split
  · exact Memory.wfFrom_mono (by omega) hm
  · next hv => simp [Memory.wfFrom, hlo, ha, hm, hv]

/-- Reading the cell that `Memory.cons` puts in front. -/
theorem Memory.read_cons_same {a : Nat} {v : Byte} {m : Memory} (hm : Memory.wfFrom (a + 1) m = true) :
    Memory.read (Memory.cons a v m) a = v := by
  unfold Memory.cons
  split
  · next hv => rw [hv]; exact Memory.read_below (Nat.lt_succ_self a) hm
  · simp [Memory.read]

/-- Reading another cell than the one `Memory.cons` puts in front. -/
theorem Memory.read_cons_other {a b : Nat} {v : Byte} {m : Memory} (h : a ≠ b) :
    Memory.read (Memory.cons a v m) b = Memory.read m b := by
  unfold Memory.cons
  split
  · rfl
  · simp [Memory.read, h]

/-- A write keeps the canonical form. -/
theorem Memory.wfFrom_write {lo a : Nat} {v : Byte} (hlo : lo ≤ a) (ha : a < 65536) : ∀ {m : Memory},
    Memory.wfFrom lo m = true → Memory.wfFrom lo (Memory.write m a v) = true
  | [], _ => Memory.wfFrom_cons hlo ha rfl
  | (k, w) :: m, hm => by
    have hm' := hm
    simp only [Memory.wfFrom, Bool.and_eq_true, decide_eq_true_eq] at hm'
    simp only [Memory.write]
    split
    · next hka =>
      simp only [Memory.wfFrom, Bool.and_eq_true, decide_eq_true_eq]
      exact ⟨hm'.1, Memory.wfFrom_write (by omega) ha hm'.2⟩
    · split
      · next hka => subst hka; exact Memory.wfFrom_cons hlo ha hm'.2
      · refine Memory.wfFrom_cons hlo ha ?_
        simp only [Memory.wfFrom, Bool.and_eq_true, decide_eq_true_eq]
        exact ⟨⟨⟨by omega, hm'.1.1.2⟩, hm'.1.2⟩, hm'.2⟩

/-- The written cell reads as the written byte. -/
theorem Memory.read_write_same {lo a : Nat} {v : Byte} : ∀ {m : Memory}, Memory.wfFrom lo m = true →
    Memory.read (Memory.write m a v) a = v
  | [], _ => Memory.read_cons_same rfl
  | (k, w) :: m, hm => by
    have hm' := hm
    simp only [Memory.wfFrom, Bool.and_eq_true, decide_eq_true_eq] at hm'
    simp only [Memory.write]
    split
    · next hka =>
      have hne : k ≠ a := by omega
      simp only [Memory.read, if_neg hne]
      exact Memory.read_write_same hm'.2
    · split
      · next hka => subst hka; exact Memory.read_cons_same hm'.2
      · refine Memory.read_cons_same ?_
        simp only [Memory.wfFrom, Bool.and_eq_true, decide_eq_true_eq]
        exact ⟨⟨⟨by omega, hm'.1.1.2⟩, hm'.1.2⟩, hm'.2⟩

/-- A write leaves every other cell alone. -/
theorem Memory.read_write_other {a b : Nat} {v : Byte} (h : a ≠ b) : ∀ {m : Memory},
    Memory.read (Memory.write m a v) b = Memory.read m b
  | [] => Memory.read_cons_other h
  | (k, w) :: m => by
    simp only [Memory.write]
    split
    · simp only [Memory.read]
      split
      · rfl
      · exact Memory.read_write_other h
    · split
      · next hka => subst hka; rw [Memory.read_cons_other h]; simp [Memory.read, h]
      · rw [Memory.read_cons_other h]

/-- Canonical memories with the same reads are the same. -/
theorem Memory.ext_of_read {lo : Nat} : ∀ {m n : Memory}, Memory.wfFrom lo m = true → Memory.wfFrom lo n = true →
    (∀ a, Memory.read m a = Memory.read n a) → m = n
  | [], [], _, _, _ => rfl
  | [], (k, v) :: n, _, hn, h => by
    simp only [Memory.wfFrom, Bool.and_eq_true, decide_eq_true_eq, bne_iff_ne] at hn
    have := h k
    simp only [Memory.read, if_true] at this
    exact absurd this.symm hn.1.2
  | (k, v) :: m, [], hm, _, h => by
    simp only [Memory.wfFrom, Bool.and_eq_true, decide_eq_true_eq, bne_iff_ne] at hm
    have := h k
    simp only [Memory.read, if_true] at this
    exact absurd this hm.1.2
  | (k, v) :: m, (j, w) :: n, hm, hn, h => by
    have hm0 := hm
    have hn0 := hn
    simp only [Memory.wfFrom, Bool.and_eq_true, decide_eq_true_eq, bne_iff_ne] at hm hn
    have hkj : k = j := by
      rcases Nat.lt_trichotomy k j with hlt | heq | hgt
      · have h1 := h k
        have hjk : j ≠ k := by omega
        simp only [Memory.read, if_true, if_neg hjk] at h1
        rw [Memory.read_below (a := k) (lo := j + 1) (by omega) hn.2] at h1
        exact absurd h1 hm.1.2
      · exact heq
      · have h1 := h j
        have hjk : k ≠ j := by omega
        simp only [Memory.read, if_true, if_neg hjk] at h1
        rw [Memory.read_below (a := j) (lo := k + 1) (by omega) hm.2] at h1
        exact absurd h1.symm hn.1.2
    subst hkj
    have hv := h k
    simp only [Memory.read, if_true] at hv
    subst hv
    have hrest : ∀ a, Memory.read m a = Memory.read n a := by
      intro a
      by_cases hka : k = a
      · subst hka
        rw [Memory.read_below (Nat.lt_succ_self k) hm.2, Memory.read_below (Nat.lt_succ_self k) hn.2]
      · have := h a
        simpa only [Memory.read, if_neg hka] using this
    rw [Memory.ext_of_read hm.2 hn.2 hrest]

/-! ## The same for the stores of the machine -/

/-- A write of a byte of the address space keeps the canonical form. -/
theorem Memory.wf_write {m : Memory} (a : Word) (v : Byte) (hm : Memory.wf m = true) :
    Memory.wf (Memory.write m a.toNat v) = true := Memory.wfFrom_write (Nat.zero_le _) a.isLt hm

/-- A byte store keeps the canonical form. -/
theorem State.storeByte_wf {s : State} (a : Word) (v : Byte) (h : Memory.wf s.mem = true) :
    Memory.wf (s.storeByte a v) = true := by
  unfold State.storeByte
  split
  · exact Memory.wf_write a v h
  · exact h

/-- A word store keeps the canonical form. -/
theorem State.storeWord_wf {s : State} (a v : Word) (h : Memory.wf s.mem = true) :
    Memory.wf (s.storeWord a v) = true := by
  unfold State.storeWord
  split
  · exact Memory.wf_write _ _ (Memory.wf_write _ _ h)
  · exact h

/-- A byte store of plain RAM reads back, and leaves every other cell alone. -/
theorem State.storeByte_read {s : State} (hm : s.params.memModel = .ram) (hw : Memory.wf s.mem = true)
    (a : Word) (v : Byte) (b : Word) :
    Memory.read (s.storeByte a v) b.toNat = if b = a then v else Memory.read s.mem b.toNat := by
  simp only [State.storeByte, hm]
  split
  · next h => subst h; exact Memory.read_write_same hw
  · next h => exact Memory.read_write_other (fun e => h (BitVec.eq_of_toNat_eq e.symm))

/-- A word store of plain RAM reads back low byte first, and leaves every other cell alone. -/
theorem State.storeWord_read {s : State} (hm : s.params.memModel = .ram) (hw : Memory.wf s.mem = true)
    (a v : Word) (b : Word) :
    Memory.read (s.storeWord a v) b.toNat
      = if b = a + 1 then Word.hi v else if b = a then Word.lo v else Memory.read s.mem b.toNat := by
  simp only [State.storeWord, hm]
  have hw1 := Memory.wf_write a (Word.lo v) hw
  split
  · next h => subst h; exact Memory.read_write_same hw1
  · next h =>
    rw [Memory.read_write_other (fun e => h (BitVec.eq_of_toNat_eq e.symm))]
    split
    · next h2 => subst h2; exact Memory.read_write_same hw
    · next h2 => exact Memory.read_write_other (fun e => h2 (BitVec.eq_of_toNat_eq e.symm))

/-- Under a collaborator a store leaves the cells alone. -/
theorem State.storeByte_collaborator {s : State} (hm : s.params.memModel = .collaborator) (a : Word) (v : Byte) :
    s.storeByte a v = s.mem := by simp [State.storeByte, hm]

/-- Under a collaborator a word store leaves the cells alone. -/
theorem State.storeWord_collaborator {s : State} (hm : s.params.memModel = .collaborator) (a v : Word) :
    s.storeWord a v = s.mem := by simp [State.storeWord, hm]

end Sys2Proof.Machine
end

