-- ==== Sys2Proof/Laws/State.lean ====
section
/-! SUPPORT. What each operation on the state leaves in each field: one lemma per field, for simp. -/

namespace Sys2Proof.Machine

variable (s : State)

/-! ### note -/

@[simp] theorem State.note_a (ev : Event) : (s.note ev).a = s.a := rfl
@[simp] theorem State.note_f (ev : Event) : (s.note ev).f = s.f := rfl
@[simp] theorem State.note_b (ev : Event) : (s.note ev).b = s.b := rfl
@[simp] theorem State.note_c (ev : Event) : (s.note ev).c = s.c := rfl
@[simp] theorem State.note_d (ev : Event) : (s.note ev).d = s.d := rfl
@[simp] theorem State.note_e (ev : Event) : (s.note ev).e = s.e := rfl
@[simp] theorem State.note_h (ev : Event) : (s.note ev).h = s.h := rfl
@[simp] theorem State.note_l (ev : Event) : (s.note ev).l = s.l := rfl
@[simp] theorem State.note_a' (ev : Event) : (s.note ev).a' = s.a' := rfl
@[simp] theorem State.note_f' (ev : Event) : (s.note ev).f' = s.f' := rfl
@[simp] theorem State.note_b' (ev : Event) : (s.note ev).b' = s.b' := rfl
@[simp] theorem State.note_c' (ev : Event) : (s.note ev).c' = s.c' := rfl
@[simp] theorem State.note_d' (ev : Event) : (s.note ev).d' = s.d' := rfl
@[simp] theorem State.note_e' (ev : Event) : (s.note ev).e' = s.e' := rfl
@[simp] theorem State.note_h' (ev : Event) : (s.note ev).h' = s.h' := rfl
@[simp] theorem State.note_l' (ev : Event) : (s.note ev).l' = s.l' := rfl
@[simp] theorem State.note_ix (ev : Event) : (s.note ev).ix = s.ix := rfl
@[simp] theorem State.note_iy (ev : Event) : (s.note ev).iy = s.iy := rfl
@[simp] theorem State.note_sp (ev : Event) : (s.note ev).sp = s.sp := rfl
@[simp] theorem State.note_pc (ev : Event) : (s.note ev).pc = s.pc := rfl
@[simp] theorem State.note_i (ev : Event) : (s.note ev).i = s.i := rfl
@[simp] theorem State.note_r (ev : Event) : (s.note ev).r = s.r := rfl
@[simp] theorem State.note_iff1 (ev : Event) : (s.note ev).iff1 = s.iff1 := rfl
@[simp] theorem State.note_iff2 (ev : Event) : (s.note ev).iff2 = s.iff2 := rfl
@[simp] theorem State.note_halt (ev : Event) : (s.note ev).halt = s.halt := rfl
@[simp] theorem State.note_eidi (ev : Event) : (s.note ev).eidi = s.eidi := rfl
@[simp] theorem State.note_nmi (ev : Event) : (s.note ev).nmi = s.nmi := rfl
@[simp] theorem State.note_blockMove (ev : Event) : (s.note ev).blockMove = s.blockMove := rfl
@[simp] theorem State.note_im (ev : Event) : (s.note ev).im = s.im := rfl
@[simp] theorem State.note_resetAddress (ev : Event) : (s.note ev).resetAddress = s.resetAddress := rfl
@[simp] theorem State.note_tStates (ev : Event) : (s.note ev).tStates = s.tStates := rfl
@[simp] theorem State.note_timing (ev : Event) : (s.note ev).timing = s.timing := rfl
@[simp] theorem State.note_params (ev : Event) : (s.note ev).params = s.params := rfl
@[simp] theorem State.note_mem (ev : Event) : (s.note ev).mem = s.mem := rfl
@[simp] theorem State.note_trace (ev : Event) : (s.note ev).trace = ev :: s.trace := rfl
@[simp] theorem State.note_ioIn (ev : Event) : (s.note ev).ioIn = s.ioIn := rfl
@[simp] theorem State.note_draws (ev : Event) : (s.note ev).draws = s.draws := rfl

/-! ### read8 -/

@[simp] theorem State.read8_a (x : Word) : (s.read8 x).a = s.a := rfl
@[simp] theorem State.read8_f (x : Word) : (s.read8 x).f = s.f := rfl
@[simp] theorem State.read8_b (x : Word) : (s.read8 x).b = s.b := rfl
@[simp] theorem State.read8_c (x : Word) : (s.read8 x).c = s.c := rfl
@[simp] theorem State.read8_d (x : Word) : (s.read8 x).d = s.d := rfl
@[simp] theorem State.read8_e (x : Word) : (s.read8 x).e = s.e := rfl
@[simp] theorem State.read8_h (x : Word) : (s.read8 x).h = s.h := rfl
@[simp] theorem State.read8_l (x : Word) : (s.read8 x).l = s.l := rfl
@[simp] theorem State.read8_a' (x : Word) : (s.read8 x).a' = s.a' := rfl
@[simp] theorem State.read8_f' (x : Word) : (s.read8 x).f' = s.f' := rfl
@[simp] theorem State.read8_b' (x : Word) : (s.read8 x).b' = s.b' := rfl
@[simp] theorem State.read8_c' (x : Word) : (s.read8 x).c' = s.c' := rfl
@[simp] theorem State.read8_d' (x : Word) : (s.read8 x).d' = s.d' := rfl
@[simp] theorem State.read8_e' (x : Word) : (s.read8 x).e' = s.e' := rfl
@[simp] theorem State.read8_h' (x : Word) : (s.read8 x).h' = s.h' := rfl
@[simp] theorem State.read8_l' (x : Word) : (s.read8 x).l' = s.l' := rfl
@[simp] theorem State.read8_ix (x : Word) : (s.read8 x).ix = s.ix := rfl
@[simp] theorem State.read8_iy (x : Word) : (s.read8 x).iy = s.iy := rfl
@[simp] theorem State.read8_sp (x : Word) : (s.read8 x).sp = s.sp := rfl
@[simp] theorem State.read8_pc (x : Word) : (s.read8 x).pc = s.pc := rfl
@[simp] theorem State.read8_i (x : Word) : (s.read8 x).i = s.i := rfl
@[simp] theorem State.read8_r (x : Word) : (s.read8 x).r = s.r := rfl
@[simp] theorem State.read8_iff1 (x : Word) : (s.read8 x).iff1 = s.iff1 := rfl
@[simp] theorem State.read8_iff2 (x : Word) : (s.read8 x).iff2 = s.iff2 := rfl
@[simp] theorem State.read8_halt (x : Word) : (s.read8 x).halt = s.halt := rfl
@[simp] theorem State.read8_eidi (x : Word) : (s.read8 x).eidi = s.eidi := rfl
@[simp] theorem State.read8_nmi (x : Word) : (s.read8 x).nmi = s.nmi := rfl
@[simp] theorem State.read8_blockMove (x : Word) : (s.read8 x).blockMove = s.blockMove := rfl
@[simp] theorem State.read8_im (x : Word) : (s.read8 x).im = s.im := rfl
@[simp] theorem State.read8_resetAddress (x : Word) : (s.read8 x).resetAddress = s.resetAddress := rfl
@[simp] theorem State.read8_tStates (x : Word) : (s.read8 x).tStates = s.tStates := rfl
@[simp] theorem State.read8_timing (x : Word) : (s.read8 x).timing = s.timing := rfl
@[simp] theorem State.read8_params (x : Word) : (s.read8 x).params = s.params := rfl
@[simp] theorem State.read8_mem (x : Word) : (s.read8 x).mem = s.mem := rfl
@[simp] theorem State.read8_trace (x : Word) : (s.read8 x).trace = .read8 x (s.byteAt x) :: s.trace := rfl
@[simp] theorem State.read8_ioIn (x : Word) : (s.read8 x).ioIn = s.ioIn := rfl
@[simp] theorem State.read8_draws (x : Word) : (s.read8 x).draws = s.draws := rfl

/-! ### read16 -/

@[simp] theorem State.read16_a (x : Word) : (s.read16 x).a = s.a := rfl
@[simp] theorem State.read16_f (x : Word) : (s.read16 x).f = s.f := rfl
@[simp] theorem State.read16_b (x : Word) : (s.read16 x).b = s.b := rfl
@[simp] theorem State.read16_c (x : Word) : (s.read16 x).c = s.c := rfl
@[simp] theorem State.read16_d (x : Word) : (s.read16 x).d = s.d := rfl
@[simp] theorem State.read16_e (x : Word) : (s.read16 x).e = s.e := rfl
@[simp] theorem State.read16_h (x : Word) : (s.read16 x).h = s.h := rfl
@[simp] theorem State.read16_l (x : Word) : (s.read16 x).l = s.l := rfl
@[simp] theorem State.read16_a' (x : Word) : (s.read16 x).a' = s.a' := rfl
@[simp] theorem State.read16_f' (x : Word) : (s.read16 x).f' = s.f' := rfl
@[simp] theorem State.read16_b' (x : Word) : (s.read16 x).b' = s.b' := rfl
@[simp] theorem State.read16_c' (x : Word) : (s.read16 x).c' = s.c' := rfl
@[simp] theorem State.read16_d' (x : Word) : (s.read16 x).d' = s.d' := rfl
@[simp] theorem State.read16_e' (x : Word) : (s.read16 x).e' = s.e' := rfl
@[simp] theorem State.read16_h' (x : Word) : (s.read16 x).h' = s.h' := rfl
@[simp] theorem State.read16_l' (x : Word) : (s.read16 x).l' = s.l' := rfl
@[simp] theorem State.read16_ix (x : Word) : (s.read16 x).ix = s.ix := rfl
@[simp] theorem State.read16_iy (x : Word) : (s.read16 x).iy = s.iy := rfl
@[simp] theorem State.read16_sp (x : Word) : (s.read16 x).sp = s.sp := rfl
@[simp] theorem State.read16_pc (x : Word) : (s.read16 x).pc = s.pc := rfl
@[simp] theorem State.read16_i (x : Word) : (s.read16 x).i = s.i := rfl
@[simp] theorem State.read16_r (x : Word) : (s.read16 x).r = s.r := rfl
@[simp] theorem State.read16_iff1 (x : Word) : (s.read16 x).iff1 = s.iff1 := rfl
@[simp] theorem State.read16_iff2 (x : Word) : (s.read16 x).iff2 = s.iff2 := rfl
@[simp] theorem State.read16_halt (x : Word) : (s.read16 x).halt = s.halt := rfl
@[simp] theorem State.read16_eidi (x : Word) : (s.read16 x).eidi = s.eidi := rfl
@[simp] theorem State.read16_nmi (x : Word) : (s.read16 x).nmi = s.nmi := rfl
@[simp] theorem State.read16_blockMove (x : Word) : (s.read16 x).blockMove = s.blockMove := rfl
@[simp] theorem State.read16_im (x : Word) : (s.read16 x).im = s.im := rfl
@[simp] theorem State.read16_resetAddress (x : Word) : (s.read16 x).resetAddress = s.resetAddress := rfl
@[simp] theorem State.read16_tStates (x : Word) : (s.read16 x).tStates = s.tStates := rfl
@[simp] theorem State.read16_timing (x : Word) : (s.read16 x).timing = s.timing := rfl
@[simp] theorem State.read16_params (x : Word) : (s.read16 x).params = s.params := rfl
@[simp] theorem State.read16_mem (x : Word) : (s.read16 x).mem = s.mem := rfl
@[simp] theorem State.read16_trace (x : Word) : (s.read16 x).trace = .read16 x (s.wordAt x) :: s.trace := rfl
@[simp] theorem State.read16_ioIn (x : Word) : (s.read16 x).ioIn = s.ioIn := rfl
@[simp] theorem State.read16_draws (x : Word) : (s.read16 x).draws = s.draws := rfl

/-! ### write8 -/

@[simp] theorem State.write8_a (x : Word) (v : Byte) : (s.write8 x v).a = s.a := rfl
@[simp] theorem State.write8_f (x : Word) (v : Byte) : (s.write8 x v).f = s.f := rfl
@[simp] theorem State.write8_b (x : Word) (v : Byte) : (s.write8 x v).b = s.b := rfl
@[simp] theorem State.write8_c (x : Word) (v : Byte) : (s.write8 x v).c = s.c := rfl
@[simp] theorem State.write8_d (x : Word) (v : Byte) : (s.write8 x v).d = s.d := rfl
@[simp] theorem State.write8_e (x : Word) (v : Byte) : (s.write8 x v).e = s.e := rfl
@[simp] theorem State.write8_h (x : Word) (v : Byte) : (s.write8 x v).h = s.h := rfl
@[simp] theorem State.write8_l (x : Word) (v : Byte) : (s.write8 x v).l = s.l := rfl
@[simp] theorem State.write8_a' (x : Word) (v : Byte) : (s.write8 x v).a' = s.a' := rfl
@[simp] theorem State.write8_f' (x : Word) (v : Byte) : (s.write8 x v).f' = s.f' := rfl
@[simp] theorem State.write8_b' (x : Word) (v : Byte) : (s.write8 x v).b' = s.b' := rfl
@[simp] theorem State.write8_c' (x : Word) (v : Byte) : (s.write8 x v).c' = s.c' := rfl
@[simp] theorem State.write8_d' (x : Word) (v : Byte) : (s.write8 x v).d' = s.d' := rfl
@[simp] theorem State.write8_e' (x : Word) (v : Byte) : (s.write8 x v).e' = s.e' := rfl
@[simp] theorem State.write8_h' (x : Word) (v : Byte) : (s.write8 x v).h' = s.h' := rfl
@[simp] theorem State.write8_l' (x : Word) (v : Byte) : (s.write8 x v).l' = s.l' := rfl
@[simp] theorem State.write8_ix (x : Word) (v : Byte) : (s.write8 x v).ix = s.ix := rfl
@[simp] theorem State.write8_iy (x : Word) (v : Byte) : (s.write8 x v).iy = s.iy := rfl
@[simp] theorem State.write8_sp (x : Word) (v : Byte) : (s.write8 x v).sp = s.sp := rfl
@[simp] theorem State.write8_pc (x : Word) (v : Byte) : (s.write8 x v).pc = s.pc := rfl
@[simp] theorem State.write8_i (x : Word) (v : Byte) : (s.write8 x v).i = s.i := rfl
@[simp] theorem State.write8_r (x : Word) (v : Byte) : (s.write8 x v).r = s.r := rfl
@[simp] theorem State.write8_iff1 (x : Word) (v : Byte) : (s.write8 x v).iff1 = s.iff1 := rfl
@[simp] theorem State.write8_iff2 (x : Word) (v : Byte) : (s.write8 x v).iff2 = s.iff2 := rfl
@[simp] theorem State.write8_halt (x : Word) (v : Byte) : (s.write8 x v).halt = s.halt := rfl
@[simp] theorem State.write8_eidi (x : Word) (v : Byte) : (s.write8 x v).eidi = s.eidi := rfl
@[simp] theorem State.write8_nmi (x : Word) (v : Byte) : (s.write8 x v).nmi = s.nmi := rfl
@[simp] theorem State.write8_blockMove (x : Word) (v : Byte) : (s.write8 x v).blockMove = s.blockMove := rfl
@[simp] theorem State.write8_im (x : Word) (v : Byte) : (s.write8 x v).im = s.im := rfl
@[simp] theorem State.write8_resetAddress (x : Word) (v : Byte) : (s.write8 x v).resetAddress = s.resetAddress := rfl
@[simp] theorem State.write8_tStates (x : Word) (v : Byte) : (s.write8 x v).tStates = s.tStates := rfl
@[simp] theorem State.write8_timing (x : Word) (v : Byte) : (s.write8 x v).timing = s.timing := rfl
@[simp] theorem State.write8_params (x : Word) (v : Byte) : (s.write8 x v).params = s.params := rfl
@[simp] theorem State.write8_mem (x : Word) (v : Byte) : (s.write8 x v).mem = s.storeByte x v := rfl
@[simp] theorem State.write8_trace (x : Word) (v : Byte) : (s.write8 x v).trace = .write8 x v :: s.trace := rfl
@[simp] theorem State.write8_ioIn (x : Word) (v : Byte) : (s.write8 x v).ioIn = s.ioIn := rfl
@[simp] theorem State.write8_draws (x : Word) (v : Byte) : (s.write8 x v).draws = s.draws := rfl

/-! ### write16 -/

@[simp] theorem State.write16_a (x v : Word) : (s.write16 x v).a = s.a := rfl
@[simp] theorem State.write16_f (x v : Word) : (s.write16 x v).f = s.f := rfl
@[simp] theorem State.write16_b (x v : Word) : (s.write16 x v).b = s.b := rfl
@[simp] theorem State.write16_c (x v : Word) : (s.write16 x v).c = s.c := rfl
@[simp] theorem State.write16_d (x v : Word) : (s.write16 x v).d = s.d := rfl
@[simp] theorem State.write16_e (x v : Word) : (s.write16 x v).e = s.e := rfl
@[simp] theorem State.write16_h (x v : Word) : (s.write16 x v).h = s.h := rfl
@[simp] theorem State.write16_l (x v : Word) : (s.write16 x v).l = s.l := rfl
@[simp] theorem State.write16_a' (x v : Word) : (s.write16 x v).a' = s.a' := rfl
@[simp] theorem State.write16_f' (x v : Word) : (s.write16 x v).f' = s.f' := rfl
@[simp] theorem State.write16_b' (x v : Word) : (s.write16 x v).b' = s.b' := rfl
@[simp] theorem State.write16_c' (x v : Word) : (s.write16 x v).c' = s.c' := rfl
@[simp] theorem State.write16_d' (x v : Word) : (s.write16 x v).d' = s.d' := rfl
@[simp] theorem State.write16_e' (x v : Word) : (s.write16 x v).e' = s.e' := rfl
@[simp] theorem State.write16_h' (x v : Word) : (s.write16 x v).h' = s.h' := rfl
@[simp] theorem State.write16_l' (x v : Word) : (s.write16 x v).l' = s.l' := rfl
@[simp] theorem State.write16_ix (x v : Word) : (s.write16 x v).ix = s.ix := rfl
@[simp] theorem State.write16_iy (x v : Word) : (s.write16 x v).iy = s.iy := rfl
@[simp] theorem State.write16_sp (x v : Word) : (s.write16 x v).sp = s.sp := rfl
@[simp] theorem State.write16_pc (x v : Word) : (s.write16 x v).pc = s.pc := rfl
@[simp] theorem State.write16_i (x v : Word) : (s.write16 x v).i = s.i := rfl
@[simp] theorem State.write16_r (x v : Word) : (s.write16 x v).r = s.r := rfl
@[simp] theorem State.write16_iff1 (x v : Word) : (s.write16 x v).iff1 = s.iff1 := rfl
@[simp] theorem State.write16_iff2 (x v : Word) : (s.write16 x v).iff2 = s.iff2 := rfl
@[simp] theorem State.write16_halt (x v : Word) : (s.write16 x v).halt = s.halt := rfl
@[simp] theorem State.write16_eidi (x v : Word) : (s.write16 x v).eidi = s.eidi := rfl
@[simp] theorem State.write16_nmi (x v : Word) : (s.write16 x v).nmi = s.nmi := rfl
@[simp] theorem State.write16_blockMove (x v : Word) : (s.write16 x v).blockMove = s.blockMove := rfl
@[simp] theorem State.write16_im (x v : Word) : (s.write16 x v).im = s.im := rfl
@[simp] theorem State.write16_resetAddress (x v : Word) : (s.write16 x v).resetAddress = s.resetAddress := rfl
@[simp] theorem State.write16_tStates (x v : Word) : (s.write16 x v).tStates = s.tStates := rfl
@[simp] theorem State.write16_timing (x v : Word) : (s.write16 x v).timing = s.timing := rfl
@[simp] theorem State.write16_params (x v : Word) : (s.write16 x v).params = s.params := rfl
@[simp] theorem State.write16_mem (x v : Word) : (s.write16 x v).mem = s.storeWord x v := rfl
@[simp] theorem State.write16_trace (x v : Word) : (s.write16 x v).trace = .write16 x v :: s.trace := rfl
@[simp] theorem State.write16_ioIn (x v : Word) : (s.write16 x v).ioIn = s.ioIn := rfl
@[simp] theorem State.write16_draws (x v : Word) : (s.write16 x v).draws = s.draws := rfl

/-! ### push16 -/

@[simp] theorem State.push16_a (v : Word) : (s.push16 v).a = s.a := rfl
@[simp] theorem State.push16_f (v : Word) : (s.push16 v).f = s.f := rfl
@[simp] theorem State.push16_b (v : Word) : (s.push16 v).b = s.b := rfl
@[simp] theorem State.push16_c (v : Word) : (s.push16 v).c = s.c := rfl
@[simp] theorem State.push16_d (v : Word) : (s.push16 v).d = s.d := rfl
@[simp] theorem State.push16_e (v : Word) : (s.push16 v).e = s.e := rfl
@[simp] theorem State.push16_h (v : Word) : (s.push16 v).h = s.h := rfl
@[simp] theorem State.push16_l (v : Word) : (s.push16 v).l = s.l := rfl
@[simp] theorem State.push16_a' (v : Word) : (s.push16 v).a' = s.a' := rfl
@[simp] theorem State.push16_f' (v : Word) : (s.push16 v).f' = s.f' := rfl
@[simp] theorem State.push16_b' (v : Word) : (s.push16 v).b' = s.b' := rfl
@[simp] theorem State.push16_c' (v : Word) : (s.push16 v).c' = s.c' := rfl
@[simp] theorem State.push16_d' (v : Word) : (s.push16 v).d' = s.d' := rfl
@[simp] theorem State.push16_e' (v : Word) : (s.push16 v).e' = s.e' := rfl
@[simp] theorem State.push16_h' (v : Word) : (s.push16 v).h' = s.h' := rfl
@[simp] theorem State.push16_l' (v : Word) : (s.push16 v).l' = s.l' := rfl
@[simp] theorem State.push16_ix (v : Word) : (s.push16 v).ix = s.ix := rfl
@[simp] theorem State.push16_iy (v : Word) : (s.push16 v).iy = s.iy := rfl
@[simp] theorem State.push16_sp (v : Word) : (s.push16 v).sp = s.sp - 2 := rfl
@[simp] theorem State.push16_pc (v : Word) : (s.push16 v).pc = s.pc := rfl
@[simp] theorem State.push16_i (v : Word) : (s.push16 v).i = s.i := rfl
@[simp] theorem State.push16_r (v : Word) : (s.push16 v).r = s.r := rfl
@[simp] theorem State.push16_iff1 (v : Word) : (s.push16 v).iff1 = s.iff1 := rfl
@[simp] theorem State.push16_iff2 (v : Word) : (s.push16 v).iff2 = s.iff2 := rfl
@[simp] theorem State.push16_halt (v : Word) : (s.push16 v).halt = s.halt := rfl
@[simp] theorem State.push16_eidi (v : Word) : (s.push16 v).eidi = s.eidi := rfl
@[simp] theorem State.push16_nmi (v : Word) : (s.push16 v).nmi = s.nmi := rfl
@[simp] theorem State.push16_blockMove (v : Word) : (s.push16 v).blockMove = s.blockMove := rfl
@[simp] theorem State.push16_im (v : Word) : (s.push16 v).im = s.im := rfl
@[simp] theorem State.push16_resetAddress (v : Word) : (s.push16 v).resetAddress = s.resetAddress := rfl
@[simp] theorem State.push16_tStates (v : Word) : (s.push16 v).tStates = s.tStates := rfl
@[simp] theorem State.push16_timing (v : Word) : (s.push16 v).timing = s.timing := rfl
@[simp] theorem State.push16_params (v : Word) : (s.push16 v).params = s.params := rfl
@[simp] theorem State.push16_mem (v : Word) : (s.push16 v).mem = s.storeWord (s.sp - 2) v := rfl
@[simp] theorem State.push16_trace (v : Word) : (s.push16 v).trace = .write16 (s.sp - 2) v :: s.trace := rfl
@[simp] theorem State.push16_ioIn (v : Word) : (s.push16 v).ioIn = s.ioIn := rfl
@[simp] theorem State.push16_draws (v : Word) : (s.push16 v).draws = s.draws := rfl

/-! ### afterPop -/

@[simp] theorem State.afterPop_a : (s.afterPop).a = s.a := rfl
@[simp] theorem State.afterPop_f : (s.afterPop).f = s.f := rfl
@[simp] theorem State.afterPop_b : (s.afterPop).b = s.b := rfl
@[simp] theorem State.afterPop_c : (s.afterPop).c = s.c := rfl
@[simp] theorem State.afterPop_d : (s.afterPop).d = s.d := rfl
@[simp] theorem State.afterPop_e : (s.afterPop).e = s.e := rfl
@[simp] theorem State.afterPop_h : (s.afterPop).h = s.h := rfl
@[simp] theorem State.afterPop_l : (s.afterPop).l = s.l := rfl
@[simp] theorem State.afterPop_a' : (s.afterPop).a' = s.a' := rfl
@[simp] theorem State.afterPop_f' : (s.afterPop).f' = s.f' := rfl
@[simp] theorem State.afterPop_b' : (s.afterPop).b' = s.b' := rfl
@[simp] theorem State.afterPop_c' : (s.afterPop).c' = s.c' := rfl
@[simp] theorem State.afterPop_d' : (s.afterPop).d' = s.d' := rfl
@[simp] theorem State.afterPop_e' : (s.afterPop).e' = s.e' := rfl
@[simp] theorem State.afterPop_h' : (s.afterPop).h' = s.h' := rfl
@[simp] theorem State.afterPop_l' : (s.afterPop).l' = s.l' := rfl
@[simp] theorem State.afterPop_ix : (s.afterPop).ix = s.ix := rfl
@[simp] theorem State.afterPop_iy : (s.afterPop).iy = s.iy := rfl
@[simp] theorem State.afterPop_sp : (s.afterPop).sp = s.sp + 2 := rfl
@[simp] theorem State.afterPop_pc : (s.afterPop).pc = s.pc := rfl
@[simp] theorem State.afterPop_i : (s.afterPop).i = s.i := rfl
@[simp] theorem State.afterPop_r : (s.afterPop).r = s.r := rfl
@[simp] theorem State.afterPop_iff1 : (s.afterPop).iff1 = s.iff1 := rfl
@[simp] theorem State.afterPop_iff2 : (s.afterPop).iff2 = s.iff2 := rfl
@[simp] theorem State.afterPop_halt : (s.afterPop).halt = s.halt := rfl
@[simp] theorem State.afterPop_eidi : (s.afterPop).eidi = s.eidi := rfl
@[simp] theorem State.afterPop_nmi : (s.afterPop).nmi = s.nmi := rfl
@[simp] theorem State.afterPop_blockMove : (s.afterPop).blockMove = s.blockMove := rfl
@[simp] theorem State.afterPop_im : (s.afterPop).im = s.im := rfl
@[simp] theorem State.afterPop_resetAddress : (s.afterPop).resetAddress = s.resetAddress := rfl
@[simp] theorem State.afterPop_tStates : (s.afterPop).tStates = s.tStates := rfl
@[simp] theorem State.afterPop_timing : (s.afterPop).timing = s.timing := rfl
@[simp] theorem State.afterPop_params : (s.afterPop).params = s.params := rfl
@[simp] theorem State.afterPop_mem : (s.afterPop).mem = s.mem := rfl
@[simp] theorem State.afterPop_trace : (s.afterPop).trace = .read16 s.sp s.popValue :: s.trace := rfl
@[simp] theorem State.afterPop_ioIn : (s.afterPop).ioIn = s.ioIn := rfl
@[simp] theorem State.afterPop_draws : (s.afterPop).draws = s.draws := rfl

/-! ### ioRead -/

@[simp] theorem State.ioRead_a (x : Word) : (s.ioRead x).a = s.a := rfl
@[simp] theorem State.ioRead_f (x : Word) : (s.ioRead x).f = s.f := rfl
@[simp] theorem State.ioRead_b (x : Word) : (s.ioRead x).b = s.b := rfl
@[simp] theorem State.ioRead_c (x : Word) : (s.ioRead x).c = s.c := rfl
@[simp] theorem State.ioRead_d (x : Word) : (s.ioRead x).d = s.d := rfl
@[simp] theorem State.ioRead_e (x : Word) : (s.ioRead x).e = s.e := rfl
@[simp] theorem State.ioRead_h (x : Word) : (s.ioRead x).h = s.h := rfl
@[simp] theorem State.ioRead_l (x : Word) : (s.ioRead x).l = s.l := rfl
@[simp] theorem State.ioRead_a' (x : Word) : (s.ioRead x).a' = s.a' := rfl
@[simp] theorem State.ioRead_f' (x : Word) : (s.ioRead x).f' = s.f' := rfl
@[simp] theorem State.ioRead_b' (x : Word) : (s.ioRead x).b' = s.b' := rfl
@[simp] theorem State.ioRead_c' (x : Word) : (s.ioRead x).c' = s.c' := rfl
@[simp] theorem State.ioRead_d' (x : Word) : (s.ioRead x).d' = s.d' := rfl
@[simp] theorem State.ioRead_e' (x : Word) : (s.ioRead x).e' = s.e' := rfl
@[simp] theorem State.ioRead_h' (x : Word) : (s.ioRead x).h' = s.h' := rfl
@[simp] theorem State.ioRead_l' (x : Word) : (s.ioRead x).l' = s.l' := rfl
@[simp] theorem State.ioRead_ix (x : Word) : (s.ioRead x).ix = s.ix := rfl
@[simp] theorem State.ioRead_iy (x : Word) : (s.ioRead x).iy = s.iy := rfl
@[simp] theorem State.ioRead_sp (x : Word) : (s.ioRead x).sp = s.sp := rfl
@[simp] theorem State.ioRead_pc (x : Word) : (s.ioRead x).pc = s.pc := rfl
@[simp] theorem State.ioRead_i (x : Word) : (s.ioRead x).i = s.i := rfl
@[simp] theorem State.ioRead_r (x : Word) : (s.ioRead x).r = s.r := rfl
@[simp] theorem State.ioRead_iff1 (x : Word) : (s.ioRead x).iff1 = s.iff1 := rfl
@[simp] theorem State.ioRead_iff2 (x : Word) : (s.ioRead x).iff2 = s.iff2 := rfl
@[simp] theorem State.ioRead_halt (x : Word) : (s.ioRead x).halt = s.halt := rfl
@[simp] theorem State.ioRead_eidi (x : Word) : (s.ioRead x).eidi = s.eidi := rfl
@[simp] theorem State.ioRead_nmi (x : Word) : (s.ioRead x).nmi = s.nmi := rfl
@[simp] theorem State.ioRead_blockMove (x : Word) : (s.ioRead x).blockMove = s.blockMove := rfl
@[simp] theorem State.ioRead_im (x : Word) : (s.ioRead x).im = s.im := rfl
@[simp] theorem State.ioRead_resetAddress (x : Word) : (s.ioRead x).resetAddress = s.resetAddress := rfl
@[simp] theorem State.ioRead_tStates (x : Word) : (s.ioRead x).tStates = s.tStates := rfl
@[simp] theorem State.ioRead_timing (x : Word) : (s.ioRead x).timing = s.timing := rfl
@[simp] theorem State.ioRead_params (x : Word) : (s.ioRead x).params = s.params := rfl
@[simp] theorem State.ioRead_mem (x : Word) : (s.ioRead x).mem = s.mem := rfl
@[simp] theorem State.ioRead_trace (x : Word) : (s.ioRead x).trace = .portIn x (s.ioValue x) :: s.trace := rfl
@[simp] theorem State.ioRead_ioIn (x : Word) : (s.ioRead x).ioIn = s.ioIn.tail := rfl
@[simp] theorem State.ioRead_draws (x : Word) : (s.ioRead x).draws = s.draws := rfl

/-! ### ioWrite -/

@[simp] theorem State.ioWrite_a (x : Word) (v : Byte) : (s.ioWrite x v).a = s.a := rfl
@[simp] theorem State.ioWrite_f (x : Word) (v : Byte) : (s.ioWrite x v).f = s.f := rfl
@[simp] theorem State.ioWrite_b (x : Word) (v : Byte) : (s.ioWrite x v).b = s.b := rfl
@[simp] theorem State.ioWrite_c (x : Word) (v : Byte) : (s.ioWrite x v).c = s.c := rfl
@[simp] theorem State.ioWrite_d (x : Word) (v : Byte) : (s.ioWrite x v).d = s.d := rfl
@[simp] theorem State.ioWrite_e (x : Word) (v : Byte) : (s.ioWrite x v).e = s.e := rfl
@[simp] theorem State.ioWrite_h (x : Word) (v : Byte) : (s.ioWrite x v).h = s.h := rfl
@[simp] theorem State.ioWrite_l (x : Word) (v : Byte) : (s.ioWrite x v).l = s.l := rfl
@[simp] theorem State.ioWrite_a' (x : Word) (v : Byte) : (s.ioWrite x v).a' = s.a' := rfl
@[simp] theorem State.ioWrite_f' (x : Word) (v : Byte) : (s.ioWrite x v).f' = s.f' := rfl
@[simp] theorem State.ioWrite_b' (x : Word) (v : Byte) : (s.ioWrite x v).b' = s.b' := rfl
@[simp] theorem State.ioWrite_c' (x : Word) (v : Byte) : (s.ioWrite x v).c' = s.c' := rfl
@[simp] theorem State.ioWrite_d' (x : Word) (v : Byte) : (s.ioWrite x v).d' = s.d' := rfl
@[simp] theorem State.ioWrite_e' (x : Word) (v : Byte) : (s.ioWrite x v).e' = s.e' := rfl
@[simp] theorem State.ioWrite_h' (x : Word) (v : Byte) : (s.ioWrite x v).h' = s.h' := rfl
@[simp] theorem State.ioWrite_l' (x : Word) (v : Byte) : (s.ioWrite x v).l' = s.l' := rfl
@[simp] theorem State.ioWrite_ix (x : Word) (v : Byte) : (s.ioWrite x v).ix = s.ix := rfl
@[simp] theorem State.ioWrite_iy (x : Word) (v : Byte) : (s.ioWrite x v).iy = s.iy := rfl
@[simp] theorem State.ioWrite_sp (x : Word) (v : Byte) : (s.ioWrite x v).sp = s.sp := rfl
@[simp] theorem State.ioWrite_pc (x : Word) (v : Byte) : (s.ioWrite x v).pc = s.pc := rfl
@[simp] theorem State.ioWrite_i (x : Word) (v : Byte) : (s.ioWrite x v).i = s.i := rfl
@[simp] theorem State.ioWrite_r (x : Word) (v : Byte) : (s.ioWrite x v).r = s.r := rfl
@[simp] theorem State.ioWrite_iff1 (x : Word) (v : Byte) : (s.ioWrite x v).iff1 = s.iff1 := rfl
@[simp] theorem State.ioWrite_iff2 (x : Word) (v : Byte) : (s.ioWrite x v).iff2 = s.iff2 := rfl
@[simp] theorem State.ioWrite_halt (x : Word) (v : Byte) : (s.ioWrite x v).halt = s.halt := rfl
@[simp] theorem State.ioWrite_eidi (x : Word) (v : Byte) : (s.ioWrite x v).eidi = s.eidi := rfl
@[simp] theorem State.ioWrite_nmi (x : Word) (v : Byte) : (s.ioWrite x v).nmi = s.nmi := rfl
@[simp] theorem State.ioWrite_blockMove (x : Word) (v : Byte) : (s.ioWrite x v).blockMove = s.blockMove := rfl
@[simp] theorem State.ioWrite_im (x : Word) (v : Byte) : (s.ioWrite x v).im = s.im := rfl
@[simp] theorem State.ioWrite_resetAddress (x : Word) (v : Byte) : (s.ioWrite x v).resetAddress = s.resetAddress := rfl
@[simp] theorem State.ioWrite_tStates (x : Word) (v : Byte) : (s.ioWrite x v).tStates = s.tStates := rfl
@[simp] theorem State.ioWrite_timing (x : Word) (v : Byte) : (s.ioWrite x v).timing = s.timing := rfl
@[simp] theorem State.ioWrite_params (x : Word) (v : Byte) : (s.ioWrite x v).params = s.params := rfl
@[simp] theorem State.ioWrite_mem (x : Word) (v : Byte) : (s.ioWrite x v).mem = s.mem := rfl
@[simp] theorem State.ioWrite_trace (x : Word) (v : Byte) : (s.ioWrite x v).trace = .portOut x v :: s.trace := rfl
@[simp] theorem State.ioWrite_ioIn (x : Word) (v : Byte) : (s.ioWrite x v).ioIn = s.ioIn := rfl
@[simp] theorem State.ioWrite_draws (x : Word) (v : Byte) : (s.ioWrite x v).draws = s.draws := rfl

/-! ### fetch -/

@[simp] theorem State.fetch_a : (s.fetch).a = s.a := rfl
@[simp] theorem State.fetch_f : (s.fetch).f = s.f := rfl
@[simp] theorem State.fetch_b : (s.fetch).b = s.b := rfl
@[simp] theorem State.fetch_c : (s.fetch).c = s.c := rfl
@[simp] theorem State.fetch_d : (s.fetch).d = s.d := rfl
@[simp] theorem State.fetch_e : (s.fetch).e = s.e := rfl
@[simp] theorem State.fetch_h : (s.fetch).h = s.h := rfl
@[simp] theorem State.fetch_l : (s.fetch).l = s.l := rfl
@[simp] theorem State.fetch_a' : (s.fetch).a' = s.a' := rfl
@[simp] theorem State.fetch_f' : (s.fetch).f' = s.f' := rfl
@[simp] theorem State.fetch_b' : (s.fetch).b' = s.b' := rfl
@[simp] theorem State.fetch_c' : (s.fetch).c' = s.c' := rfl
@[simp] theorem State.fetch_d' : (s.fetch).d' = s.d' := rfl
@[simp] theorem State.fetch_e' : (s.fetch).e' = s.e' := rfl
@[simp] theorem State.fetch_h' : (s.fetch).h' = s.h' := rfl
@[simp] theorem State.fetch_l' : (s.fetch).l' = s.l' := rfl
@[simp] theorem State.fetch_ix : (s.fetch).ix = s.ix := rfl
@[simp] theorem State.fetch_iy : (s.fetch).iy = s.iy := rfl
@[simp] theorem State.fetch_sp : (s.fetch).sp = s.sp := rfl
@[simp] theorem State.fetch_pc : (s.fetch).pc = s.pc + 1 := rfl
@[simp] theorem State.fetch_i : (s.fetch).i = s.i := rfl
@[simp] theorem State.fetch_r : (s.fetch).r = s.r := rfl
@[simp] theorem State.fetch_iff1 : (s.fetch).iff1 = s.iff1 := rfl
@[simp] theorem State.fetch_iff2 : (s.fetch).iff2 = s.iff2 := rfl
@[simp] theorem State.fetch_halt : (s.fetch).halt = s.halt := rfl
@[simp] theorem State.fetch_eidi : (s.fetch).eidi = s.eidi := rfl
@[simp] theorem State.fetch_nmi : (s.fetch).nmi = s.nmi := rfl
@[simp] theorem State.fetch_blockMove : (s.fetch).blockMove = s.blockMove := rfl
@[simp] theorem State.fetch_im : (s.fetch).im = s.im := rfl
@[simp] theorem State.fetch_resetAddress : (s.fetch).resetAddress = s.resetAddress := rfl
@[simp] theorem State.fetch_tStates : (s.fetch).tStates = s.tStates := rfl
@[simp] theorem State.fetch_timing : (s.fetch).timing = s.timing := rfl
@[simp] theorem State.fetch_params : (s.fetch).params = s.params := rfl
@[simp] theorem State.fetch_mem : (s.fetch).mem = s.mem := rfl
@[simp] theorem State.fetch_trace : (s.fetch).trace = .fetch s.pc (s.byteAt s.pc) :: s.trace := rfl
@[simp] theorem State.fetch_ioIn : (s.fetch).ioIn = s.ioIn := rfl
@[simp] theorem State.fetch_draws : (s.fetch).draws = s.draws := rfl

/-! ### charge -/

@[simp] theorem State.charge_a (n : Nat) : (s.charge n).a = s.a := rfl
@[simp] theorem State.charge_f (n : Nat) : (s.charge n).f = s.f := rfl
@[simp] theorem State.charge_b (n : Nat) : (s.charge n).b = s.b := rfl
@[simp] theorem State.charge_c (n : Nat) : (s.charge n).c = s.c := rfl
@[simp] theorem State.charge_d (n : Nat) : (s.charge n).d = s.d := rfl
@[simp] theorem State.charge_e (n : Nat) : (s.charge n).e = s.e := rfl
@[simp] theorem State.charge_h (n : Nat) : (s.charge n).h = s.h := rfl
@[simp] theorem State.charge_l (n : Nat) : (s.charge n).l = s.l := rfl
@[simp] theorem State.charge_a' (n : Nat) : (s.charge n).a' = s.a' := rfl
@[simp] theorem State.charge_f' (n : Nat) : (s.charge n).f' = s.f' := rfl
@[simp] theorem State.charge_b' (n : Nat) : (s.charge n).b' = s.b' := rfl
@[simp] theorem State.charge_c' (n : Nat) : (s.charge n).c' = s.c' := rfl
@[simp] theorem State.charge_d' (n : Nat) : (s.charge n).d' = s.d' := rfl
@[simp] theorem State.charge_e' (n : Nat) : (s.charge n).e' = s.e' := rfl
@[simp] theorem State.charge_h' (n : Nat) : (s.charge n).h' = s.h' := rfl
@[simp] theorem State.charge_l' (n : Nat) : (s.charge n).l' = s.l' := rfl
@[simp] theorem State.charge_ix (n : Nat) : (s.charge n).ix = s.ix := rfl
@[simp] theorem State.charge_iy (n : Nat) : (s.charge n).iy = s.iy := rfl
@[simp] theorem State.charge_sp (n : Nat) : (s.charge n).sp = s.sp := rfl
@[simp] theorem State.charge_pc (n : Nat) : (s.charge n).pc = s.pc := rfl
@[simp] theorem State.charge_i (n : Nat) : (s.charge n).i = s.i := rfl
@[simp] theorem State.charge_r (n : Nat) : (s.charge n).r = s.r := rfl
@[simp] theorem State.charge_iff1 (n : Nat) : (s.charge n).iff1 = s.iff1 := rfl
@[simp] theorem State.charge_iff2 (n : Nat) : (s.charge n).iff2 = s.iff2 := rfl
@[simp] theorem State.charge_halt (n : Nat) : (s.charge n).halt = s.halt := rfl
@[simp] theorem State.charge_eidi (n : Nat) : (s.charge n).eidi = s.eidi := rfl
@[simp] theorem State.charge_nmi (n : Nat) : (s.charge n).nmi = s.nmi := rfl
@[simp] theorem State.charge_blockMove (n : Nat) : (s.charge n).blockMove = s.blockMove := rfl
@[simp] theorem State.charge_im (n : Nat) : (s.charge n).im = s.im := rfl
@[simp] theorem State.charge_resetAddress (n : Nat) : (s.charge n).resetAddress = s.resetAddress := rfl
@[simp] theorem State.charge_tStates (n : Nat) : (s.charge n).tStates = s.tStates + n := rfl
@[simp] theorem State.charge_timing (n : Nat) : (s.charge n).timing = s.timing := rfl
@[simp] theorem State.charge_params (n : Nat) : (s.charge n).params = s.params := rfl
@[simp] theorem State.charge_mem (n : Nat) : (s.charge n).mem = s.mem := rfl
@[simp] theorem State.charge_trace (n : Nat) : (s.charge n).trace = s.trace := rfl
@[simp] theorem State.charge_ioIn (n : Nat) : (s.charge n).ioIn = s.ioIn := rfl
@[simp] theorem State.charge_draws (n : Nat) : (s.charge n).draws = s.draws := rfl

/-! ### chargeDelta -/

@[simp] theorem State.chargeDelta_a (t : TimingTable) (op : Byte) : (s.chargeDelta t op).a = s.a := rfl
@[simp] theorem State.chargeDelta_f (t : TimingTable) (op : Byte) : (s.chargeDelta t op).f = s.f := rfl
@[simp] theorem State.chargeDelta_b (t : TimingTable) (op : Byte) : (s.chargeDelta t op).b = s.b := rfl
@[simp] theorem State.chargeDelta_c (t : TimingTable) (op : Byte) : (s.chargeDelta t op).c = s.c := rfl
@[simp] theorem State.chargeDelta_d (t : TimingTable) (op : Byte) : (s.chargeDelta t op).d = s.d := rfl
@[simp] theorem State.chargeDelta_e (t : TimingTable) (op : Byte) : (s.chargeDelta t op).e = s.e := rfl
@[simp] theorem State.chargeDelta_h (t : TimingTable) (op : Byte) : (s.chargeDelta t op).h = s.h := rfl
@[simp] theorem State.chargeDelta_l (t : TimingTable) (op : Byte) : (s.chargeDelta t op).l = s.l := rfl
@[simp] theorem State.chargeDelta_a' (t : TimingTable) (op : Byte) : (s.chargeDelta t op).a' = s.a' := rfl
@[simp] theorem State.chargeDelta_f' (t : TimingTable) (op : Byte) : (s.chargeDelta t op).f' = s.f' := rfl
@[simp] theorem State.chargeDelta_b' (t : TimingTable) (op : Byte) : (s.chargeDelta t op).b' = s.b' := rfl
@[simp] theorem State.chargeDelta_c' (t : TimingTable) (op : Byte) : (s.chargeDelta t op).c' = s.c' := rfl
@[simp] theorem State.chargeDelta_d' (t : TimingTable) (op : Byte) : (s.chargeDelta t op).d' = s.d' := rfl
@[simp] theorem State.chargeDelta_e' (t : TimingTable) (op : Byte) : (s.chargeDelta t op).e' = s.e' := rfl
@[simp] theorem State.chargeDelta_h' (t : TimingTable) (op : Byte) : (s.chargeDelta t op).h' = s.h' := rfl
@[simp] theorem State.chargeDelta_l' (t : TimingTable) (op : Byte) : (s.chargeDelta t op).l' = s.l' := rfl
@[simp] theorem State.chargeDelta_ix (t : TimingTable) (op : Byte) : (s.chargeDelta t op).ix = s.ix := rfl
@[simp] theorem State.chargeDelta_iy (t : TimingTable) (op : Byte) : (s.chargeDelta t op).iy = s.iy := rfl
@[simp] theorem State.chargeDelta_sp (t : TimingTable) (op : Byte) : (s.chargeDelta t op).sp = s.sp := rfl
@[simp] theorem State.chargeDelta_pc (t : TimingTable) (op : Byte) : (s.chargeDelta t op).pc = s.pc := rfl
@[simp] theorem State.chargeDelta_i (t : TimingTable) (op : Byte) : (s.chargeDelta t op).i = s.i := rfl
@[simp] theorem State.chargeDelta_r (t : TimingTable) (op : Byte) : (s.chargeDelta t op).r = s.r := rfl
@[simp] theorem State.chargeDelta_iff1 (t : TimingTable) (op : Byte) : (s.chargeDelta t op).iff1 = s.iff1 := rfl
@[simp] theorem State.chargeDelta_iff2 (t : TimingTable) (op : Byte) : (s.chargeDelta t op).iff2 = s.iff2 := rfl
@[simp] theorem State.chargeDelta_halt (t : TimingTable) (op : Byte) : (s.chargeDelta t op).halt = s.halt := rfl
@[simp] theorem State.chargeDelta_eidi (t : TimingTable) (op : Byte) : (s.chargeDelta t op).eidi = s.eidi := rfl
@[simp] theorem State.chargeDelta_nmi (t : TimingTable) (op : Byte) : (s.chargeDelta t op).nmi = s.nmi := rfl
@[simp] theorem State.chargeDelta_blockMove (t : TimingTable) (op : Byte) : (s.chargeDelta t op).blockMove = s.blockMove := rfl
@[simp] theorem State.chargeDelta_im (t : TimingTable) (op : Byte) : (s.chargeDelta t op).im = s.im := rfl
@[simp] theorem State.chargeDelta_resetAddress (t : TimingTable) (op : Byte) : (s.chargeDelta t op).resetAddress = s.resetAddress := rfl
@[simp] theorem State.chargeDelta_tStates (t : TimingTable) (op : Byte) : (s.chargeDelta t op).tStates = s.tStates + (TimingTable.entry t op).getD 0 := rfl
@[simp] theorem State.chargeDelta_timing (t : TimingTable) (op : Byte) : (s.chargeDelta t op).timing = s.timing := rfl
@[simp] theorem State.chargeDelta_params (t : TimingTable) (op : Byte) : (s.chargeDelta t op).params = s.params := rfl
@[simp] theorem State.chargeDelta_mem (t : TimingTable) (op : Byte) : (s.chargeDelta t op).mem = s.mem := rfl
@[simp] theorem State.chargeDelta_trace (t : TimingTable) (op : Byte) : (s.chargeDelta t op).trace = s.trace := rfl
@[simp] theorem State.chargeDelta_ioIn (t : TimingTable) (op : Byte) : (s.chargeDelta t op).ioIn = s.ioIn := rfl
@[simp] theorem State.chargeDelta_draws (t : TimingTable) (op : Byte) : (s.chargeDelta t op).draws = s.draws := rfl

/-! ### bumpR -/

@[simp] theorem State.bumpR_a (k : Nat) : (s.bumpR k).a = s.a := rfl
@[simp] theorem State.bumpR_f (k : Nat) : (s.bumpR k).f = s.f := rfl
@[simp] theorem State.bumpR_b (k : Nat) : (s.bumpR k).b = s.b := rfl
@[simp] theorem State.bumpR_c (k : Nat) : (s.bumpR k).c = s.c := rfl
@[simp] theorem State.bumpR_d (k : Nat) : (s.bumpR k).d = s.d := rfl
@[simp] theorem State.bumpR_e (k : Nat) : (s.bumpR k).e = s.e := rfl
@[simp] theorem State.bumpR_h (k : Nat) : (s.bumpR k).h = s.h := rfl
@[simp] theorem State.bumpR_l (k : Nat) : (s.bumpR k).l = s.l := rfl
@[simp] theorem State.bumpR_a' (k : Nat) : (s.bumpR k).a' = s.a' := rfl
@[simp] theorem State.bumpR_f' (k : Nat) : (s.bumpR k).f' = s.f' := rfl
@[simp] theorem State.bumpR_b' (k : Nat) : (s.bumpR k).b' = s.b' := rfl
@[simp] theorem State.bumpR_c' (k : Nat) : (s.bumpR k).c' = s.c' := rfl
@[simp] theorem State.bumpR_d' (k : Nat) : (s.bumpR k).d' = s.d' := rfl
@[simp] theorem State.bumpR_e' (k : Nat) : (s.bumpR k).e' = s.e' := rfl
@[simp] theorem State.bumpR_h' (k : Nat) : (s.bumpR k).h' = s.h' := rfl
@[simp] theorem State.bumpR_l' (k : Nat) : (s.bumpR k).l' = s.l' := rfl
@[simp] theorem State.bumpR_ix (k : Nat) : (s.bumpR k).ix = s.ix := rfl
@[simp] theorem State.bumpR_iy (k : Nat) : (s.bumpR k).iy = s.iy := rfl
@[simp] theorem State.bumpR_sp (k : Nat) : (s.bumpR k).sp = s.sp := rfl
@[simp] theorem State.bumpR_pc (k : Nat) : (s.bumpR k).pc = s.pc := rfl
@[simp] theorem State.bumpR_i (k : Nat) : (s.bumpR k).i = s.i := rfl
@[simp] theorem State.bumpR_iff1 (k : Nat) : (s.bumpR k).iff1 = s.iff1 := rfl
@[simp] theorem State.bumpR_iff2 (k : Nat) : (s.bumpR k).iff2 = s.iff2 := rfl
@[simp] theorem State.bumpR_halt (k : Nat) : (s.bumpR k).halt = s.halt := rfl
@[simp] theorem State.bumpR_eidi (k : Nat) : (s.bumpR k).eidi = s.eidi := rfl
@[simp] theorem State.bumpR_nmi (k : Nat) : (s.bumpR k).nmi = s.nmi := rfl
@[simp] theorem State.bumpR_blockMove (k : Nat) : (s.bumpR k).blockMove = s.blockMove := rfl
@[simp] theorem State.bumpR_im (k : Nat) : (s.bumpR k).im = s.im := rfl
@[simp] theorem State.bumpR_resetAddress (k : Nat) : (s.bumpR k).resetAddress = s.resetAddress := rfl
@[simp] theorem State.bumpR_tStates (k : Nat) : (s.bumpR k).tStates = s.tStates := rfl
@[simp] theorem State.bumpR_timing (k : Nat) : (s.bumpR k).timing = s.timing := rfl
@[simp] theorem State.bumpR_params (k : Nat) : (s.bumpR k).params = s.params := rfl
@[simp] theorem State.bumpR_mem (k : Nat) : (s.bumpR k).mem = s.mem := rfl
@[simp] theorem State.bumpR_trace (k : Nat) : (s.bumpR k).trace = s.trace := rfl
@[simp] theorem State.bumpR_ioIn (k : Nat) : (s.bumpR k).ioIn = s.ioIn := rfl
@[simp] theorem State.bumpR_draws (k : Nat) : (s.bumpR k).draws = s.draws := rfl

/-! ### setFlags -/

@[simp] theorem State.setFlags_a (m g : Flags) : (s.setFlags m g).a = s.a := by
  unfold State.setFlags; split <;> rfl
@[simp] theorem State.setFlags_b (m g : Flags) : (s.setFlags m g).b = s.b := by
  unfold State.setFlags; split <;> rfl
@[simp] theorem State.setFlags_c (m g : Flags) : (s.setFlags m g).c = s.c := by
  unfold State.setFlags; split <;> rfl
@[simp] theorem State.setFlags_d (m g : Flags) : (s.setFlags m g).d = s.d := by
  unfold State.setFlags; split <;> rfl
@[simp] theorem State.setFlags_e (m g : Flags) : (s.setFlags m g).e = s.e := by
  unfold State.setFlags; split <;> rfl
@[simp] theorem State.setFlags_h (m g : Flags) : (s.setFlags m g).h = s.h := by
  unfold State.setFlags; split <;> rfl
@[simp] theorem State.setFlags_l (m g : Flags) : (s.setFlags m g).l = s.l := by
  unfold State.setFlags; split <;> rfl
@[simp] theorem State.setFlags_a' (m g : Flags) : (s.setFlags m g).a' = s.a' := by
  unfold State.setFlags; split <;> rfl
@[simp] theorem State.setFlags_f' (m g : Flags) : (s.setFlags m g).f' = s.f' := by
  unfold State.setFlags; split <;> rfl
@[simp] theorem State.setFlags_b' (m g : Flags) : (s.setFlags m g).b' = s.b' := by
  unfold State.setFlags; split <;> rfl
@[simp] theorem State.setFlags_c' (m g : Flags) : (s.setFlags m g).c' = s.c' := by
  unfold State.setFlags; split <;> rfl
@[simp] theorem State.setFlags_d' (m g : Flags) : (s.setFlags m g).d' = s.d' := by
  unfold State.setFlags; split <;> rfl
@[simp] theorem State.setFlags_e' (m g : Flags) : (s.setFlags m g).e' = s.e' := by
  unfold State.setFlags; split <;> rfl
@[simp] theorem State.setFlags_h' (m g : Flags) : (s.setFlags m g).h' = s.h' := by
  unfold State.setFlags; split <;> rfl
@[simp] theorem State.setFlags_l' (m g : Flags) : (s.setFlags m g).l' = s.l' := by
  unfold State.setFlags; split <;> rfl
@[simp] theorem State.setFlags_ix (m g : Flags) : (s.setFlags m g).ix = s.ix := by
  unfold State.setFlags; split <;> rfl
@[simp] theorem State.setFlags_iy (m g : Flags) : (s.setFlags m g).iy = s.iy := by
  unfold State.setFlags; split <;> rfl
@[simp] theorem State.setFlags_sp (m g : Flags) : (s.setFlags m g).sp = s.sp := by
  unfold State.setFlags; split <;> rfl
@[simp] theorem State.setFlags_pc (m g : Flags) : (s.setFlags m g).pc = s.pc := by
  unfold State.setFlags; split <;> rfl
@[simp] theorem State.setFlags_i (m g : Flags) : (s.setFlags m g).i = s.i := by
  unfold State.setFlags; split <;> rfl
@[simp] theorem State.setFlags_r (m g : Flags) : (s.setFlags m g).r = s.r := by
  unfold State.setFlags; split <;> rfl
@[simp] theorem State.setFlags_iff1 (m g : Flags) : (s.setFlags m g).iff1 = s.iff1 := by
  unfold State.setFlags; split <;> rfl
@[simp] theorem State.setFlags_iff2 (m g : Flags) : (s.setFlags m g).iff2 = s.iff2 := by
  unfold State.setFlags; split <;> rfl
@[simp] theorem State.setFlags_halt (m g : Flags) : (s.setFlags m g).halt = s.halt := by
  unfold State.setFlags; split <;> rfl
@[simp] theorem State.setFlags_eidi (m g : Flags) : (s.setFlags m g).eidi = s.eidi := by
  unfold State.setFlags; split <;> rfl
@[simp] theorem State.setFlags_nmi (m g : Flags) : (s.setFlags m g).nmi = s.nmi := by
  unfold State.setFlags; split <;> rfl
@[simp] theorem State.setFlags_blockMove (m g : Flags) : (s.setFlags m g).blockMove = s.blockMove := by
  unfold State.setFlags; split <;> rfl
@[simp] theorem State.setFlags_im (m g : Flags) : (s.setFlags m g).im = s.im := by
  unfold State.setFlags; split <;> rfl
@[simp] theorem State.setFlags_resetAddress (m g : Flags) : (s.setFlags m g).resetAddress = s.resetAddress := by
  unfold State.setFlags; split <;> rfl
@[simp] theorem State.setFlags_tStates (m g : Flags) : (s.setFlags m g).tStates = s.tStates := by
  unfold State.setFlags; split <;> rfl
@[simp] theorem State.setFlags_timing (m g : Flags) : (s.setFlags m g).timing = s.timing := by
  unfold State.setFlags; split <;> rfl
@[simp] theorem State.setFlags_params (m g : Flags) : (s.setFlags m g).params = s.params := by
  unfold State.setFlags; split <;> rfl
@[simp] theorem State.setFlags_mem (m g : Flags) : (s.setFlags m g).mem = s.mem := by
  unfold State.setFlags; split <;> rfl
@[simp] theorem State.setFlags_trace (m g : Flags) : (s.setFlags m g).trace = s.trace := by
  unfold State.setFlags; split <;> rfl
@[simp] theorem State.setFlags_ioIn (m g : Flags) : (s.setFlags m g).ioIn = s.ioIn := by
  unfold State.setFlags; split <;> rfl

/-! ### setReg -/

@[simp] theorem State.setReg_f (k : Reg8) (v : Byte) : (s.setReg k v).f = s.f := by cases k <;> rfl
@[simp] theorem State.setReg_a' (k : Reg8) (v : Byte) : (s.setReg k v).a' = s.a' := by cases k <;> rfl
@[simp] theorem State.setReg_f' (k : Reg8) (v : Byte) : (s.setReg k v).f' = s.f' := by cases k <;> rfl
@[simp] theorem State.setReg_b' (k : Reg8) (v : Byte) : (s.setReg k v).b' = s.b' := by cases k <;> rfl
@[simp] theorem State.setReg_c' (k : Reg8) (v : Byte) : (s.setReg k v).c' = s.c' := by cases k <;> rfl
@[simp] theorem State.setReg_d' (k : Reg8) (v : Byte) : (s.setReg k v).d' = s.d' := by cases k <;> rfl
@[simp] theorem State.setReg_e' (k : Reg8) (v : Byte) : (s.setReg k v).e' = s.e' := by cases k <;> rfl
@[simp] theorem State.setReg_h' (k : Reg8) (v : Byte) : (s.setReg k v).h' = s.h' := by cases k <;> rfl
@[simp] theorem State.setReg_l' (k : Reg8) (v : Byte) : (s.setReg k v).l' = s.l' := by cases k <;> rfl
@[simp] theorem State.setReg_ix (k : Reg8) (v : Byte) : (s.setReg k v).ix = s.ix := by cases k <;> rfl
@[simp] theorem State.setReg_iy (k : Reg8) (v : Byte) : (s.setReg k v).iy = s.iy := by cases k <;> rfl
@[simp] theorem State.setReg_sp (k : Reg8) (v : Byte) : (s.setReg k v).sp = s.sp := by cases k <;> rfl
@[simp] theorem State.setReg_pc (k : Reg8) (v : Byte) : (s.setReg k v).pc = s.pc := by cases k <;> rfl
@[simp] theorem State.setReg_i (k : Reg8) (v : Byte) : (s.setReg k v).i = s.i := by cases k <;> rfl
@[simp] theorem State.setReg_r (k : Reg8) (v : Byte) : (s.setReg k v).r = s.r := by cases k <;> rfl
@[simp] theorem State.setReg_iff1 (k : Reg8) (v : Byte) : (s.setReg k v).iff1 = s.iff1 := by cases k <;> rfl
@[simp] theorem State.setReg_iff2 (k : Reg8) (v : Byte) : (s.setReg k v).iff2 = s.iff2 := by cases k <;> rfl
@[simp] theorem State.setReg_halt (k : Reg8) (v : Byte) : (s.setReg k v).halt = s.halt := by cases k <;> rfl
@[simp] theorem State.setReg_eidi (k : Reg8) (v : Byte) : (s.setReg k v).eidi = s.eidi := by cases k <;> rfl
@[simp] theorem State.setReg_nmi (k : Reg8) (v : Byte) : (s.setReg k v).nmi = s.nmi := by cases k <;> rfl
@[simp] theorem State.setReg_blockMove (k : Reg8) (v : Byte) : (s.setReg k v).blockMove = s.blockMove := by cases k <;> rfl
@[simp] theorem State.setReg_im (k : Reg8) (v : Byte) : (s.setReg k v).im = s.im := by cases k <;> rfl
@[simp] theorem State.setReg_resetAddress (k : Reg8) (v : Byte) : (s.setReg k v).resetAddress = s.resetAddress := by cases k <;> rfl
@[simp] theorem State.setReg_tStates (k : Reg8) (v : Byte) : (s.setReg k v).tStates = s.tStates := by cases k <;> rfl
@[simp] theorem State.setReg_timing (k : Reg8) (v : Byte) : (s.setReg k v).timing = s.timing := by cases k <;> rfl
@[simp] theorem State.setReg_params (k : Reg8) (v : Byte) : (s.setReg k v).params = s.params := by cases k <;> rfl
@[simp] theorem State.setReg_mem (k : Reg8) (v : Byte) : (s.setReg k v).mem = s.mem := by cases k <;> rfl
@[simp] theorem State.setReg_trace (k : Reg8) (v : Byte) : (s.setReg k v).trace = s.trace := by cases k <;> rfl
@[simp] theorem State.setReg_ioIn (k : Reg8) (v : Byte) : (s.setReg k v).ioIn = s.ioIn := by cases k <;> rfl
@[simp] theorem State.setReg_draws (k : Reg8) (v : Byte) : (s.setReg k v).draws = s.draws := by cases k <;> rfl

/-! ### setBc -/

@[simp] theorem State.setBc_a (v : Word) : (s.setBc v).a = s.a := rfl
@[simp] theorem State.setBc_f (v : Word) : (s.setBc v).f = s.f := rfl
@[simp] theorem State.setBc_b (v : Word) : (s.setBc v).b = Word.hi v := rfl
@[simp] theorem State.setBc_c (v : Word) : (s.setBc v).c = Word.lo v := rfl
@[simp] theorem State.setBc_d (v : Word) : (s.setBc v).d = s.d := rfl
@[simp] theorem State.setBc_e (v : Word) : (s.setBc v).e = s.e := rfl
@[simp] theorem State.setBc_h (v : Word) : (s.setBc v).h = s.h := rfl
@[simp] theorem State.setBc_l (v : Word) : (s.setBc v).l = s.l := rfl
@[simp] theorem State.setBc_a' (v : Word) : (s.setBc v).a' = s.a' := rfl
@[simp] theorem State.setBc_f' (v : Word) : (s.setBc v).f' = s.f' := rfl
@[simp] theorem State.setBc_b' (v : Word) : (s.setBc v).b' = s.b' := rfl
@[simp] theorem State.setBc_c' (v : Word) : (s.setBc v).c' = s.c' := rfl
@[simp] theorem State.setBc_d' (v : Word) : (s.setBc v).d' = s.d' := rfl
@[simp] theorem State.setBc_e' (v : Word) : (s.setBc v).e' = s.e' := rfl
@[simp] theorem State.setBc_h' (v : Word) : (s.setBc v).h' = s.h' := rfl
@[simp] theorem State.setBc_l' (v : Word) : (s.setBc v).l' = s.l' := rfl
@[simp] theorem State.setBc_ix (v : Word) : (s.setBc v).ix = s.ix := rfl
@[simp] theorem State.setBc_iy (v : Word) : (s.setBc v).iy = s.iy := rfl
@[simp] theorem State.setBc_sp (v : Word) : (s.setBc v).sp = s.sp := rfl
@[simp] theorem State.setBc_pc (v : Word) : (s.setBc v).pc = s.pc := rfl
@[simp] theorem State.setBc_i (v : Word) : (s.setBc v).i = s.i := rfl
@[simp] theorem State.setBc_r (v : Word) : (s.setBc v).r = s.r := rfl
@[simp] theorem State.setBc_iff1 (v : Word) : (s.setBc v).iff1 = s.iff1 := rfl
@[simp] theorem State.setBc_iff2 (v : Word) : (s.setBc v).iff2 = s.iff2 := rfl
@[simp] theorem State.setBc_halt (v : Word) : (s.setBc v).halt = s.halt := rfl
@[simp] theorem State.setBc_eidi (v : Word) : (s.setBc v).eidi = s.eidi := rfl
@[simp] theorem State.setBc_nmi (v : Word) : (s.setBc v).nmi = s.nmi := rfl
@[simp] theorem State.setBc_blockMove (v : Word) : (s.setBc v).blockMove = s.blockMove := rfl
@[simp] theorem State.setBc_im (v : Word) : (s.setBc v).im = s.im := rfl
@[simp] theorem State.setBc_resetAddress (v : Word) : (s.setBc v).resetAddress = s.resetAddress := rfl
@[simp] theorem State.setBc_tStates (v : Word) : (s.setBc v).tStates = s.tStates := rfl
@[simp] theorem State.setBc_timing (v : Word) : (s.setBc v).timing = s.timing := rfl
@[simp] theorem State.setBc_params (v : Word) : (s.setBc v).params = s.params := rfl
@[simp] theorem State.setBc_mem (v : Word) : (s.setBc v).mem = s.mem := rfl
@[simp] theorem State.setBc_trace (v : Word) : (s.setBc v).trace = s.trace := rfl
@[simp] theorem State.setBc_ioIn (v : Word) : (s.setBc v).ioIn = s.ioIn := rfl
@[simp] theorem State.setBc_draws (v : Word) : (s.setBc v).draws = s.draws := rfl

/-! ### setDe -/

@[simp] theorem State.setDe_a (v : Word) : (s.setDe v).a = s.a := rfl
@[simp] theorem State.setDe_f (v : Word) : (s.setDe v).f = s.f := rfl
@[simp] theorem State.setDe_b (v : Word) : (s.setDe v).b = s.b := rfl
@[simp] theorem State.setDe_c (v : Word) : (s.setDe v).c = s.c := rfl
@[simp] theorem State.setDe_d (v : Word) : (s.setDe v).d = Word.hi v := rfl
@[simp] theorem State.setDe_e (v : Word) : (s.setDe v).e = Word.lo v := rfl
@[simp] theorem State.setDe_h (v : Word) : (s.setDe v).h = s.h := rfl
@[simp] theorem State.setDe_l (v : Word) : (s.setDe v).l = s.l := rfl
@[simp] theorem State.setDe_a' (v : Word) : (s.setDe v).a' = s.a' := rfl
@[simp] theorem State.setDe_f' (v : Word) : (s.setDe v).f' = s.f' := rfl
@[simp] theorem State.setDe_b' (v : Word) : (s.setDe v).b' = s.b' := rfl
@[simp] theorem State.setDe_c' (v : Word) : (s.setDe v).c' = s.c' := rfl
@[simp] theorem State.setDe_d' (v : Word) : (s.setDe v).d' = s.d' := rfl
@[simp] theorem State.setDe_e' (v : Word) : (s.setDe v).e' = s.e' := rfl
@[simp] theorem State.setDe_h' (v : Word) : (s.setDe v).h' = s.h' := rfl
@[simp] theorem State.setDe_l' (v : Word) : (s.setDe v).l' = s.l' := rfl
@[simp] theorem State.setDe_ix (v : Word) : (s.setDe v).ix = s.ix := rfl
@[simp] theorem State.setDe_iy (v : Word) : (s.setDe v).iy = s.iy := rfl
@[simp] theorem State.setDe_sp (v : Word) : (s.setDe v).sp = s.sp := rfl
@[simp] theorem State.setDe_pc (v : Word) : (s.setDe v).pc = s.pc := rfl
@[simp] theorem State.setDe_i (v : Word) : (s.setDe v).i = s.i := rfl
@[simp] theorem State.setDe_r (v : Word) : (s.setDe v).r = s.r := rfl
@[simp] theorem State.setDe_iff1 (v : Word) : (s.setDe v).iff1 = s.iff1 := rfl
@[simp] theorem State.setDe_iff2 (v : Word) : (s.setDe v).iff2 = s.iff2 := rfl
@[simp] theorem State.setDe_halt (v : Word) : (s.setDe v).halt = s.halt := rfl
@[simp] theorem State.setDe_eidi (v : Word) : (s.setDe v).eidi = s.eidi := rfl
@[simp] theorem State.setDe_nmi (v : Word) : (s.setDe v).nmi = s.nmi := rfl
@[simp] theorem State.setDe_blockMove (v : Word) : (s.setDe v).blockMove = s.blockMove := rfl
@[simp] theorem State.setDe_im (v : Word) : (s.setDe v).im = s.im := rfl
@[simp] theorem State.setDe_resetAddress (v : Word) : (s.setDe v).resetAddress = s.resetAddress := rfl
@[simp] theorem State.setDe_tStates (v : Word) : (s.setDe v).tStates = s.tStates := rfl
@[simp] theorem State.setDe_timing (v : Word) : (s.setDe v).timing = s.timing := rfl
@[simp] theorem State.setDe_params (v : Word) : (s.setDe v).params = s.params := rfl
@[simp] theorem State.setDe_mem (v : Word) : (s.setDe v).mem = s.mem := rfl
@[simp] theorem State.setDe_trace (v : Word) : (s.setDe v).trace = s.trace := rfl
@[simp] theorem State.setDe_ioIn (v : Word) : (s.setDe v).ioIn = s.ioIn := rfl
@[simp] theorem State.setDe_draws (v : Word) : (s.setDe v).draws = s.draws := rfl

/-! ### setHl -/

@[simp] theorem State.setHl_a (v : Word) : (s.setHl v).a = s.a := rfl
@[simp] theorem State.setHl_f (v : Word) : (s.setHl v).f = s.f := rfl
@[simp] theorem State.setHl_b (v : Word) : (s.setHl v).b = s.b := rfl
@[simp] theorem State.setHl_c (v : Word) : (s.setHl v).c = s.c := rfl
@[simp] theorem State.setHl_d (v : Word) : (s.setHl v).d = s.d := rfl
@[simp] theorem State.setHl_e (v : Word) : (s.setHl v).e = s.e := rfl
@[simp] theorem State.setHl_h (v : Word) : (s.setHl v).h = Word.hi v := rfl
@[simp] theorem State.setHl_l (v : Word) : (s.setHl v).l = Word.lo v := rfl
@[simp] theorem State.setHl_a' (v : Word) : (s.setHl v).a' = s.a' := rfl
@[simp] theorem State.setHl_f' (v : Word) : (s.setHl v).f' = s.f' := rfl
@[simp] theorem State.setHl_b' (v : Word) : (s.setHl v).b' = s.b' := rfl
@[simp] theorem State.setHl_c' (v : Word) : (s.setHl v).c' = s.c' := rfl
@[simp] theorem State.setHl_d' (v : Word) : (s.setHl v).d' = s.d' := rfl
@[simp] theorem State.setHl_e' (v : Word) : (s.setHl v).e' = s.e' := rfl
@[simp] theorem State.setHl_h' (v : Word) : (s.setHl v).h' = s.h' := rfl
@[simp] theorem State.setHl_l' (v : Word) : (s.setHl v).l' = s.l' := rfl
@[simp] theorem State.setHl_ix (v : Word) : (s.setHl v).ix = s.ix := rfl
@[simp] theorem State.setHl_iy (v : Word) : (s.setHl v).iy = s.iy := rfl
@[simp] theorem State.setHl_sp (v : Word) : (s.setHl v).sp = s.sp := rfl
@[simp] theorem State.setHl_pc (v : Word) : (s.setHl v).pc = s.pc := rfl
@[simp] theorem State.setHl_i (v : Word) : (s.setHl v).i = s.i := rfl
@[simp] theorem State.setHl_r (v : Word) : (s.setHl v).r = s.r := rfl
@[simp] theorem State.setHl_iff1 (v : Word) : (s.setHl v).iff1 = s.iff1 := rfl
@[simp] theorem State.setHl_iff2 (v : Word) : (s.setHl v).iff2 = s.iff2 := rfl
@[simp] theorem State.setHl_halt (v : Word) : (s.setHl v).halt = s.halt := rfl
@[simp] theorem State.setHl_eidi (v : Word) : (s.setHl v).eidi = s.eidi := rfl
@[simp] theorem State.setHl_nmi (v : Word) : (s.setHl v).nmi = s.nmi := rfl
@[simp] theorem State.setHl_blockMove (v : Word) : (s.setHl v).blockMove = s.blockMove := rfl
@[simp] theorem State.setHl_im (v : Word) : (s.setHl v).im = s.im := rfl
@[simp] theorem State.setHl_resetAddress (v : Word) : (s.setHl v).resetAddress = s.resetAddress := rfl
@[simp] theorem State.setHl_tStates (v : Word) : (s.setHl v).tStates = s.tStates := rfl
@[simp] theorem State.setHl_timing (v : Word) : (s.setHl v).timing = s.timing := rfl
@[simp] theorem State.setHl_params (v : Word) : (s.setHl v).params = s.params := rfl
@[simp] theorem State.setHl_mem (v : Word) : (s.setHl v).mem = s.mem := rfl
@[simp] theorem State.setHl_trace (v : Word) : (s.setHl v).trace = s.trace := rfl
@[simp] theorem State.setHl_ioIn (v : Word) : (s.setHl v).ioIn = s.ioIn := rfl
@[simp] theorem State.setHl_draws (v : Word) : (s.setHl v).draws = s.draws := rfl

/-! ### setAf -/

@[simp] theorem State.setAf_a (v : Word) : (s.setAf v).a = Word.hi v := rfl
@[simp] theorem State.setAf_f (v : Word) : (s.setAf v).f = Flags.unpack (Word.lo v) := rfl
@[simp] theorem State.setAf_b (v : Word) : (s.setAf v).b = s.b := rfl
@[simp] theorem State.setAf_c (v : Word) : (s.setAf v).c = s.c := rfl
@[simp] theorem State.setAf_d (v : Word) : (s.setAf v).d = s.d := rfl
@[simp] theorem State.setAf_e (v : Word) : (s.setAf v).e = s.e := rfl
@[simp] theorem State.setAf_h (v : Word) : (s.setAf v).h = s.h := rfl
@[simp] theorem State.setAf_l (v : Word) : (s.setAf v).l = s.l := rfl
@[simp] theorem State.setAf_a' (v : Word) : (s.setAf v).a' = s.a' := rfl
@[simp] theorem State.setAf_f' (v : Word) : (s.setAf v).f' = s.f' := rfl
@[simp] theorem State.setAf_b' (v : Word) : (s.setAf v).b' = s.b' := rfl
@[simp] theorem State.setAf_c' (v : Word) : (s.setAf v).c' = s.c' := rfl
@[simp] theorem State.setAf_d' (v : Word) : (s.setAf v).d' = s.d' := rfl
@[simp] theorem State.setAf_e' (v : Word) : (s.setAf v).e' = s.e' := rfl
@[simp] theorem State.setAf_h' (v : Word) : (s.setAf v).h' = s.h' := rfl
@[simp] theorem State.setAf_l' (v : Word) : (s.setAf v).l' = s.l' := rfl
@[simp] theorem State.setAf_ix (v : Word) : (s.setAf v).ix = s.ix := rfl
@[simp] theorem State.setAf_iy (v : Word) : (s.setAf v).iy = s.iy := rfl
@[simp] theorem State.setAf_sp (v : Word) : (s.setAf v).sp = s.sp := rfl
@[simp] theorem State.setAf_pc (v : Word) : (s.setAf v).pc = s.pc := rfl
@[simp] theorem State.setAf_i (v : Word) : (s.setAf v).i = s.i := rfl
@[simp] theorem State.setAf_r (v : Word) : (s.setAf v).r = s.r := rfl
@[simp] theorem State.setAf_iff1 (v : Word) : (s.setAf v).iff1 = s.iff1 := rfl
@[simp] theorem State.setAf_iff2 (v : Word) : (s.setAf v).iff2 = s.iff2 := rfl
@[simp] theorem State.setAf_halt (v : Word) : (s.setAf v).halt = s.halt := rfl
@[simp] theorem State.setAf_eidi (v : Word) : (s.setAf v).eidi = s.eidi := rfl
@[simp] theorem State.setAf_nmi (v : Word) : (s.setAf v).nmi = s.nmi := rfl
@[simp] theorem State.setAf_blockMove (v : Word) : (s.setAf v).blockMove = s.blockMove := rfl
@[simp] theorem State.setAf_im (v : Word) : (s.setAf v).im = s.im := rfl
@[simp] theorem State.setAf_resetAddress (v : Word) : (s.setAf v).resetAddress = s.resetAddress := rfl
@[simp] theorem State.setAf_tStates (v : Word) : (s.setAf v).tStates = s.tStates := rfl
@[simp] theorem State.setAf_timing (v : Word) : (s.setAf v).timing = s.timing := rfl
@[simp] theorem State.setAf_params (v : Word) : (s.setAf v).params = s.params := rfl
@[simp] theorem State.setAf_mem (v : Word) : (s.setAf v).mem = s.mem := rfl
@[simp] theorem State.setAf_trace (v : Word) : (s.setAf v).trace = s.trace := rfl
@[simp] theorem State.setAf_ioIn (v : Word) : (s.setAf v).ioIn = s.ioIn := rfl
@[simp] theorem State.setAf_draws (v : Word) : (s.setAf v).draws = s.draws := rfl

/-! ### setRp -/

@[simp] theorem State.setRp_a (p : Rp) (v : Word) : (s.setRp p v).a = s.a := by cases p <;> rfl
@[simp] theorem State.setRp_f (p : Rp) (v : Word) : (s.setRp p v).f = s.f := by cases p <;> rfl
@[simp] theorem State.setRp_a' (p : Rp) (v : Word) : (s.setRp p v).a' = s.a' := by cases p <;> rfl
@[simp] theorem State.setRp_f' (p : Rp) (v : Word) : (s.setRp p v).f' = s.f' := by cases p <;> rfl
@[simp] theorem State.setRp_b' (p : Rp) (v : Word) : (s.setRp p v).b' = s.b' := by cases p <;> rfl
@[simp] theorem State.setRp_c' (p : Rp) (v : Word) : (s.setRp p v).c' = s.c' := by cases p <;> rfl
@[simp] theorem State.setRp_d' (p : Rp) (v : Word) : (s.setRp p v).d' = s.d' := by cases p <;> rfl
@[simp] theorem State.setRp_e' (p : Rp) (v : Word) : (s.setRp p v).e' = s.e' := by cases p <;> rfl
@[simp] theorem State.setRp_h' (p : Rp) (v : Word) : (s.setRp p v).h' = s.h' := by cases p <;> rfl
@[simp] theorem State.setRp_l' (p : Rp) (v : Word) : (s.setRp p v).l' = s.l' := by cases p <;> rfl
@[simp] theorem State.setRp_ix (p : Rp) (v : Word) : (s.setRp p v).ix = s.ix := by cases p <;> rfl
@[simp] theorem State.setRp_iy (p : Rp) (v : Word) : (s.setRp p v).iy = s.iy := by cases p <;> rfl
@[simp] theorem State.setRp_pc (p : Rp) (v : Word) : (s.setRp p v).pc = s.pc := by cases p <;> rfl
@[simp] theorem State.setRp_i (p : Rp) (v : Word) : (s.setRp p v).i = s.i := by cases p <;> rfl
@[simp] theorem State.setRp_r (p : Rp) (v : Word) : (s.setRp p v).r = s.r := by cases p <;> rfl
@[simp] theorem State.setRp_iff1 (p : Rp) (v : Word) : (s.setRp p v).iff1 = s.iff1 := by cases p <;> rfl
@[simp] theorem State.setRp_iff2 (p : Rp) (v : Word) : (s.setRp p v).iff2 = s.iff2 := by cases p <;> rfl
@[simp] theorem State.setRp_halt (p : Rp) (v : Word) : (s.setRp p v).halt = s.halt := by cases p <;> rfl
@[simp] theorem State.setRp_eidi (p : Rp) (v : Word) : (s.setRp p v).eidi = s.eidi := by cases p <;> rfl
@[simp] theorem State.setRp_nmi (p : Rp) (v : Word) : (s.setRp p v).nmi = s.nmi := by cases p <;> rfl
@[simp] theorem State.setRp_blockMove (p : Rp) (v : Word) : (s.setRp p v).blockMove = s.blockMove := by cases p <;> rfl
@[simp] theorem State.setRp_im (p : Rp) (v : Word) : (s.setRp p v).im = s.im := by cases p <;> rfl
@[simp] theorem State.setRp_resetAddress (p : Rp) (v : Word) : (s.setRp p v).resetAddress = s.resetAddress := by cases p <;> rfl
@[simp] theorem State.setRp_tStates (p : Rp) (v : Word) : (s.setRp p v).tStates = s.tStates := by cases p <;> rfl
@[simp] theorem State.setRp_timing (p : Rp) (v : Word) : (s.setRp p v).timing = s.timing := by cases p <;> rfl
@[simp] theorem State.setRp_params (p : Rp) (v : Word) : (s.setRp p v).params = s.params := by cases p <;> rfl
@[simp] theorem State.setRp_mem (p : Rp) (v : Word) : (s.setRp p v).mem = s.mem := by cases p <;> rfl
@[simp] theorem State.setRp_trace (p : Rp) (v : Word) : (s.setRp p v).trace = s.trace := by cases p <;> rfl
@[simp] theorem State.setRp_ioIn (p : Rp) (v : Word) : (s.setRp p v).ioIn = s.ioIn := by cases p <;> rfl
@[simp] theorem State.setRp_draws (p : Rp) (v : Word) : (s.setRp p v).draws = s.draws := by cases p <;> rfl

/-! ### setRp2 -/

@[simp] theorem State.setRp2_a' (q : Rp2) (v : Word) : (s.setRp2 q v).a' = s.a' := by cases q <;> rfl
@[simp] theorem State.setRp2_f' (q : Rp2) (v : Word) : (s.setRp2 q v).f' = s.f' := by cases q <;> rfl
@[simp] theorem State.setRp2_b' (q : Rp2) (v : Word) : (s.setRp2 q v).b' = s.b' := by cases q <;> rfl
@[simp] theorem State.setRp2_c' (q : Rp2) (v : Word) : (s.setRp2 q v).c' = s.c' := by cases q <;> rfl
@[simp] theorem State.setRp2_d' (q : Rp2) (v : Word) : (s.setRp2 q v).d' = s.d' := by cases q <;> rfl
@[simp] theorem State.setRp2_e' (q : Rp2) (v : Word) : (s.setRp2 q v).e' = s.e' := by cases q <;> rfl
@[simp] theorem State.setRp2_h' (q : Rp2) (v : Word) : (s.setRp2 q v).h' = s.h' := by cases q <;> rfl
@[simp] theorem State.setRp2_l' (q : Rp2) (v : Word) : (s.setRp2 q v).l' = s.l' := by cases q <;> rfl
@[simp] theorem State.setRp2_ix (q : Rp2) (v : Word) : (s.setRp2 q v).ix = s.ix := by cases q <;> rfl
@[simp] theorem State.setRp2_iy (q : Rp2) (v : Word) : (s.setRp2 q v).iy = s.iy := by cases q <;> rfl
@[simp] theorem State.setRp2_sp (q : Rp2) (v : Word) : (s.setRp2 q v).sp = s.sp := by cases q <;> rfl
@[simp] theorem State.setRp2_pc (q : Rp2) (v : Word) : (s.setRp2 q v).pc = s.pc := by cases q <;> rfl
@[simp] theorem State.setRp2_i (q : Rp2) (v : Word) : (s.setRp2 q v).i = s.i := by cases q <;> rfl
@[simp] theorem State.setRp2_r (q : Rp2) (v : Word) : (s.setRp2 q v).r = s.r := by cases q <;> rfl
@[simp] theorem State.setRp2_iff1 (q : Rp2) (v : Word) : (s.setRp2 q v).iff1 = s.iff1 := by cases q <;> rfl
@[simp] theorem State.setRp2_iff2 (q : Rp2) (v : Word) : (s.setRp2 q v).iff2 = s.iff2 := by cases q <;> rfl
@[simp] theorem State.setRp2_halt (q : Rp2) (v : Word) : (s.setRp2 q v).halt = s.halt := by cases q <;> rfl
@[simp] theorem State.setRp2_eidi (q : Rp2) (v : Word) : (s.setRp2 q v).eidi = s.eidi := by cases q <;> rfl
@[simp] theorem State.setRp2_nmi (q : Rp2) (v : Word) : (s.setRp2 q v).nmi = s.nmi := by cases q <;> rfl
@[simp] theorem State.setRp2_blockMove (q : Rp2) (v : Word) : (s.setRp2 q v).blockMove = s.blockMove := by cases q <;> rfl
@[simp] theorem State.setRp2_im (q : Rp2) (v : Word) : (s.setRp2 q v).im = s.im := by cases q <;> rfl
@[simp] theorem State.setRp2_resetAddress (q : Rp2) (v : Word) : (s.setRp2 q v).resetAddress = s.resetAddress := by cases q <;> rfl
@[simp] theorem State.setRp2_tStates (q : Rp2) (v : Word) : (s.setRp2 q v).tStates = s.tStates := by cases q <;> rfl
@[simp] theorem State.setRp2_timing (q : Rp2) (v : Word) : (s.setRp2 q v).timing = s.timing := by cases q <;> rfl
@[simp] theorem State.setRp2_params (q : Rp2) (v : Word) : (s.setRp2 q v).params = s.params := by cases q <;> rfl
@[simp] theorem State.setRp2_mem (q : Rp2) (v : Word) : (s.setRp2 q v).mem = s.mem := by cases q <;> rfl
@[simp] theorem State.setRp2_trace (q : Rp2) (v : Word) : (s.setRp2 q v).trace = s.trace := by cases q <;> rfl
@[simp] theorem State.setRp2_ioIn (q : Rp2) (v : Word) : (s.setRp2 q v).ioIn = s.ioIn := by cases q <;> rfl
@[simp] theorem State.setRp2_draws (q : Rp2) (v : Word) : (s.setRp2 q v).draws = s.draws := by cases q <;> rfl

/-! ### setIdx -/

@[simp] theorem State.setIdx_a (x : Idx) (v : Word) : (s.setIdx x v).a = s.a := by cases x <;> rfl
@[simp] theorem State.setIdx_f (x : Idx) (v : Word) : (s.setIdx x v).f = s.f := by cases x <;> rfl
@[simp] theorem State.setIdx_b (x : Idx) (v : Word) : (s.setIdx x v).b = s.b := by cases x <;> rfl
@[simp] theorem State.setIdx_c (x : Idx) (v : Word) : (s.setIdx x v).c = s.c := by cases x <;> rfl
@[simp] theorem State.setIdx_d (x : Idx) (v : Word) : (s.setIdx x v).d = s.d := by cases x <;> rfl
@[simp] theorem State.setIdx_e (x : Idx) (v : Word) : (s.setIdx x v).e = s.e := by cases x <;> rfl
@[simp] theorem State.setIdx_h (x : Idx) (v : Word) : (s.setIdx x v).h = s.h := by cases x <;> rfl
@[simp] theorem State.setIdx_l (x : Idx) (v : Word) : (s.setIdx x v).l = s.l := by cases x <;> rfl
@[simp] theorem State.setIdx_a' (x : Idx) (v : Word) : (s.setIdx x v).a' = s.a' := by cases x <;> rfl
@[simp] theorem State.setIdx_f' (x : Idx) (v : Word) : (s.setIdx x v).f' = s.f' := by cases x <;> rfl
@[simp] theorem State.setIdx_b' (x : Idx) (v : Word) : (s.setIdx x v).b' = s.b' := by cases x <;> rfl
@[simp] theorem State.setIdx_c' (x : Idx) (v : Word) : (s.setIdx x v).c' = s.c' := by cases x <;> rfl
@[simp] theorem State.setIdx_d' (x : Idx) (v : Word) : (s.setIdx x v).d' = s.d' := by cases x <;> rfl
@[simp] theorem State.setIdx_e' (x : Idx) (v : Word) : (s.setIdx x v).e' = s.e' := by cases x <;> rfl
@[simp] theorem State.setIdx_h' (x : Idx) (v : Word) : (s.setIdx x v).h' = s.h' := by cases x <;> rfl
@[simp] theorem State.setIdx_l' (x : Idx) (v : Word) : (s.setIdx x v).l' = s.l' := by cases x <;> rfl
@[simp] theorem State.setIdx_sp (x : Idx) (v : Word) : (s.setIdx x v).sp = s.sp := by cases x <;> rfl
@[simp] theorem State.setIdx_pc (x : Idx) (v : Word) : (s.setIdx x v).pc = s.pc := by cases x <;> rfl
@[simp] theorem State.setIdx_i (x : Idx) (v : Word) : (s.setIdx x v).i = s.i := by cases x <;> rfl
@[simp] theorem State.setIdx_r (x : Idx) (v : Word) : (s.setIdx x v).r = s.r := by cases x <;> rfl
@[simp] theorem State.setIdx_iff1 (x : Idx) (v : Word) : (s.setIdx x v).iff1 = s.iff1 := by cases x <;> rfl
@[simp] theorem State.setIdx_iff2 (x : Idx) (v : Word) : (s.setIdx x v).iff2 = s.iff2 := by cases x <;> rfl
@[simp] theorem State.setIdx_halt (x : Idx) (v : Word) : (s.setIdx x v).halt = s.halt := by cases x <;> rfl
@[simp] theorem State.setIdx_eidi (x : Idx) (v : Word) : (s.setIdx x v).eidi = s.eidi := by cases x <;> rfl
@[simp] theorem State.setIdx_nmi (x : Idx) (v : Word) : (s.setIdx x v).nmi = s.nmi := by cases x <;> rfl
@[simp] theorem State.setIdx_blockMove (x : Idx) (v : Word) : (s.setIdx x v).blockMove = s.blockMove := by cases x <;> rfl
@[simp] theorem State.setIdx_im (x : Idx) (v : Word) : (s.setIdx x v).im = s.im := by cases x <;> rfl
@[simp] theorem State.setIdx_resetAddress (x : Idx) (v : Word) : (s.setIdx x v).resetAddress = s.resetAddress := by cases x <;> rfl
@[simp] theorem State.setIdx_tStates (x : Idx) (v : Word) : (s.setIdx x v).tStates = s.tStates := by cases x <;> rfl
@[simp] theorem State.setIdx_timing (x : Idx) (v : Word) : (s.setIdx x v).timing = s.timing := by cases x <;> rfl
@[simp] theorem State.setIdx_params (x : Idx) (v : Word) : (s.setIdx x v).params = s.params := by cases x <;> rfl
@[simp] theorem State.setIdx_mem (x : Idx) (v : Word) : (s.setIdx x v).mem = s.mem := by cases x <;> rfl
@[simp] theorem State.setIdx_trace (x : Idx) (v : Word) : (s.setIdx x v).trace = s.trace := by cases x <;> rfl
@[simp] theorem State.setIdx_ioIn (x : Idx) (v : Word) : (s.setIdx x v).ioIn = s.ioIn := by cases x <;> rfl
@[simp] theorem State.setIdx_draws (x : Idx) (v : Word) : (s.setIdx x v).draws = s.draws := by cases x <;> rfl

/-! ### setHalf -/

@[simp] theorem State.setHalf_a (x : Idx) (k : Half) (v : Byte) : (s.setHalf x k v).a = s.a := by
  cases k <;> cases x <;> rfl
@[simp] theorem State.setHalf_f (x : Idx) (k : Half) (v : Byte) : (s.setHalf x k v).f = s.f := by
  cases k <;> cases x <;> rfl
@[simp] theorem State.setHalf_b (x : Idx) (k : Half) (v : Byte) : (s.setHalf x k v).b = s.b := by
  cases k <;> cases x <;> rfl
@[simp] theorem State.setHalf_c (x : Idx) (k : Half) (v : Byte) : (s.setHalf x k v).c = s.c := by
  cases k <;> cases x <;> rfl
@[simp] theorem State.setHalf_d (x : Idx) (k : Half) (v : Byte) : (s.setHalf x k v).d = s.d := by
  cases k <;> cases x <;> rfl
@[simp] theorem State.setHalf_e (x : Idx) (k : Half) (v : Byte) : (s.setHalf x k v).e = s.e := by
  cases k <;> cases x <;> rfl
@[simp] theorem State.setHalf_h (x : Idx) (k : Half) (v : Byte) : (s.setHalf x k v).h = s.h := by
  cases k <;> cases x <;> rfl
@[simp] theorem State.setHalf_l (x : Idx) (k : Half) (v : Byte) : (s.setHalf x k v).l = s.l := by
  cases k <;> cases x <;> rfl
@[simp] theorem State.setHalf_a' (x : Idx) (k : Half) (v : Byte) : (s.setHalf x k v).a' = s.a' := by
  cases k <;> cases x <;> rfl
@[simp] theorem State.setHalf_f' (x : Idx) (k : Half) (v : Byte) : (s.setHalf x k v).f' = s.f' := by
  cases k <;> cases x <;> rfl
@[simp] theorem State.setHalf_b' (x : Idx) (k : Half) (v : Byte) : (s.setHalf x k v).b' = s.b' := by
  cases k <;> cases x <;> rfl
@[simp] theorem State.setHalf_c' (x : Idx) (k : Half) (v : Byte) : (s.setHalf x k v).c' = s.c' := by
  cases k <;> cases x <;> rfl
@[simp] theorem State.setHalf_d' (x : Idx) (k : Half) (v : Byte) : (s.setHalf x k v).d' = s.d' := by
  cases k <;> cases x <;> rfl
@[simp] theorem State.setHalf_e' (x : Idx) (k : Half) (v : Byte) : (s.setHalf x k v).e' = s.e' := by
  cases k <;> cases x <;> rfl
@[simp] theorem State.setHalf_h' (x : Idx) (k : Half) (v : Byte) : (s.setHalf x k v).h' = s.h' := by
  cases k <;> cases x <;> rfl
@[simp] theorem State.setHalf_l' (x : Idx) (k : Half) (v : Byte) : (s.setHalf x k v).l' = s.l' := by
  cases k <;> cases x <;> rfl
@[simp] theorem State.setHalf_sp (x : Idx) (k : Half) (v : Byte) : (s.setHalf x k v).sp = s.sp := by
  cases k <;> cases x <;> rfl
@[simp] theorem State.setHalf_pc (x : Idx) (k : Half) (v : Byte) : (s.setHalf x k v).pc = s.pc := by
  cases k <;> cases x <;> rfl
@[simp] theorem State.setHalf_i (x : Idx) (k : Half) (v : Byte) : (s.setHalf x k v).i = s.i := by
  cases k <;> cases x <;> rfl
@[simp] theorem State.setHalf_r (x : Idx) (k : Half) (v : Byte) : (s.setHalf x k v).r = s.r := by
  cases k <;> cases x <;> rfl
@[simp] theorem State.setHalf_iff1 (x : Idx) (k : Half) (v : Byte) : (s.setHalf x k v).iff1 = s.iff1 := by
  cases k <;> cases x <;> rfl
@[simp] theorem State.setHalf_iff2 (x : Idx) (k : Half) (v : Byte) : (s.setHalf x k v).iff2 = s.iff2 := by
  cases k <;> cases x <;> rfl
@[simp] theorem State.setHalf_halt (x : Idx) (k : Half) (v : Byte) : (s.setHalf x k v).halt = s.halt := by
  cases k <;> cases x <;> rfl
@[simp] theorem State.setHalf_eidi (x : Idx) (k : Half) (v : Byte) : (s.setHalf x k v).eidi = s.eidi := by
  cases k <;> cases x <;> rfl
@[simp] theorem State.setHalf_nmi (x : Idx) (k : Half) (v : Byte) : (s.setHalf x k v).nmi = s.nmi := by
  cases k <;> cases x <;> rfl
@[simp] theorem State.setHalf_blockMove (x : Idx) (k : Half) (v : Byte) : (s.setHalf x k v).blockMove = s.blockMove := by
  cases k <;> cases x <;> rfl
@[simp] theorem State.setHalf_im (x : Idx) (k : Half) (v : Byte) : (s.setHalf x k v).im = s.im := by
  cases k <;> cases x <;> rfl
@[simp] theorem State.setHalf_resetAddress (x : Idx) (k : Half) (v : Byte) : (s.setHalf x k v).resetAddress = s.resetAddress := by
  cases k <;> cases x <;> rfl
@[simp] theorem State.setHalf_tStates (x : Idx) (k : Half) (v : Byte) : (s.setHalf x k v).tStates = s.tStates := by
  cases k <;> cases x <;> rfl
@[simp] theorem State.setHalf_timing (x : Idx) (k : Half) (v : Byte) : (s.setHalf x k v).timing = s.timing := by
  cases k <;> cases x <;> rfl
@[simp] theorem State.setHalf_params (x : Idx) (k : Half) (v : Byte) : (s.setHalf x k v).params = s.params := by
  cases k <;> cases x <;> rfl
@[simp] theorem State.setHalf_mem (x : Idx) (k : Half) (v : Byte) : (s.setHalf x k v).mem = s.mem := by
  cases k <;> cases x <;> rfl
@[simp] theorem State.setHalf_trace (x : Idx) (k : Half) (v : Byte) : (s.setHalf x k v).trace = s.trace := by
  cases k <;> cases x <;> rfl
@[simp] theorem State.setHalf_ioIn (x : Idx) (k : Half) (v : Byte) : (s.setHalf x k v).ioIn = s.ioIn := by
  cases k <;> cases x <;> rfl
@[simp] theorem State.setHalf_draws (x : Idx) (k : Half) (v : Byte) : (s.setHalf x k v).draws = s.draws := by
  cases k <;> cases x <;> rfl

/-! ### Register views under operations that write no general register -/

@[simp] theorem State.note_getReg (ev : Event) (r : Reg8) : (s.note ev).getReg r = s.getReg r := by
  cases r <;> rfl
@[simp] theorem State.note_bc (ev : Event) : (s.note ev).bc = s.bc := rfl
@[simp] theorem State.note_de (ev : Event) : (s.note ev).de = s.de := rfl
@[simp] theorem State.note_hl (ev : Event) : (s.note ev).hl = s.hl := rfl
@[simp] theorem State.note_getIdx (ev : Event) (y : Idx) : (s.note ev).getIdx y = s.getIdx y := by
  cases y <;> rfl
@[simp] theorem State.read8_getReg (x : Word) (r : Reg8) : (s.read8 x).getReg r = s.getReg r := by
  cases r <;> rfl
@[simp] theorem State.read8_bc (x : Word) : (s.read8 x).bc = s.bc := rfl
@[simp] theorem State.read8_de (x : Word) : (s.read8 x).de = s.de := rfl
@[simp] theorem State.read8_hl (x : Word) : (s.read8 x).hl = s.hl := rfl
@[simp] theorem State.read8_getIdx (x : Word) (y : Idx) : (s.read8 x).getIdx y = s.getIdx y := by
  cases y <;> rfl
@[simp] theorem State.read16_getReg (x : Word) (r : Reg8) : (s.read16 x).getReg r = s.getReg r := by
  cases r <;> rfl
@[simp] theorem State.read16_bc (x : Word) : (s.read16 x).bc = s.bc := rfl
@[simp] theorem State.read16_de (x : Word) : (s.read16 x).de = s.de := rfl
@[simp] theorem State.read16_hl (x : Word) : (s.read16 x).hl = s.hl := rfl
@[simp] theorem State.read16_getIdx (x : Word) (y : Idx) : (s.read16 x).getIdx y = s.getIdx y := by
  cases y <;> rfl
@[simp] theorem State.write8_getReg (x : Word) (v : Byte) (r : Reg8) : (s.write8 x v).getReg r = s.getReg r := by
  cases r <;> rfl
@[simp] theorem State.write8_bc (x : Word) (v : Byte) : (s.write8 x v).bc = s.bc := rfl
@[simp] theorem State.write8_de (x : Word) (v : Byte) : (s.write8 x v).de = s.de := rfl
@[simp] theorem State.write8_hl (x : Word) (v : Byte) : (s.write8 x v).hl = s.hl := rfl
@[simp] theorem State.write8_getIdx (x : Word) (v : Byte) (y : Idx) : (s.write8 x v).getIdx y = s.getIdx y := by
  cases y <;> rfl
@[simp] theorem State.write16_getReg (x v : Word) (r : Reg8) : (s.write16 x v).getReg r = s.getReg r := by
  cases r <;> rfl
@[simp] theorem State.write16_bc (x v : Word) : (s.write16 x v).bc = s.bc := rfl
@[simp] theorem State.write16_de (x v : Word) : (s.write16 x v).de = s.de := rfl
@[simp] theorem State.write16_hl (x v : Word) : (s.write16 x v).hl = s.hl := rfl
@[simp] theorem State.write16_getIdx (x v : Word) (y : Idx) : (s.write16 x v).getIdx y = s.getIdx y := by
  cases y <;> rfl
@[simp] theorem State.ioRead_getReg (x : Word) (r : Reg8) : (s.ioRead x).getReg r = s.getReg r := by
  cases r <;> rfl
@[simp] theorem State.ioRead_bc (x : Word) : (s.ioRead x).bc = s.bc := rfl
@[simp] theorem State.ioRead_de (x : Word) : (s.ioRead x).de = s.de := rfl
@[simp] theorem State.ioRead_hl (x : Word) : (s.ioRead x).hl = s.hl := rfl
@[simp] theorem State.ioRead_getIdx (x : Word) (y : Idx) : (s.ioRead x).getIdx y = s.getIdx y := by
  cases y <;> rfl
@[simp] theorem State.ioWrite_getReg (x : Word) (v : Byte) (r : Reg8) : (s.ioWrite x v).getReg r = s.getReg r := by
  cases r <;> rfl
@[simp] theorem State.ioWrite_bc (x : Word) (v : Byte) : (s.ioWrite x v).bc = s.bc := rfl
@[simp] theorem State.ioWrite_de (x : Word) (v : Byte) : (s.ioWrite x v).de = s.de := rfl
@[simp] theorem State.ioWrite_hl (x : Word) (v : Byte) : (s.ioWrite x v).hl = s.hl := rfl
@[simp] theorem State.ioWrite_getIdx (x : Word) (v : Byte) (y : Idx) : (s.ioWrite x v).getIdx y = s.getIdx y := by
  cases y <;> rfl
@[simp] theorem State.fetch_getReg (r : Reg8) : (s.fetch).getReg r = s.getReg r := by
  cases r <;> rfl
@[simp] theorem State.fetch_bc : (s.fetch).bc = s.bc := rfl
@[simp] theorem State.fetch_de : (s.fetch).de = s.de := rfl
@[simp] theorem State.fetch_hl : (s.fetch).hl = s.hl := rfl
@[simp] theorem State.fetch_getIdx (y : Idx) : (s.fetch).getIdx y = s.getIdx y := by
  cases y <;> rfl
@[simp] theorem State.charge_getReg (n : Nat) (r : Reg8) : (s.charge n).getReg r = s.getReg r := by
  cases r <;> rfl
@[simp] theorem State.charge_bc (n : Nat) : (s.charge n).bc = s.bc := rfl
@[simp] theorem State.charge_de (n : Nat) : (s.charge n).de = s.de := rfl
@[simp] theorem State.charge_hl (n : Nat) : (s.charge n).hl = s.hl := rfl
@[simp] theorem State.charge_getIdx (n : Nat) (y : Idx) : (s.charge n).getIdx y = s.getIdx y := by
  cases y <;> rfl
@[simp] theorem State.chargeDelta_getReg (t : TimingTable) (op : Byte) (r : Reg8) : (s.chargeDelta t op).getReg r = s.getReg r := by
  cases r <;> rfl
@[simp] theorem State.chargeDelta_bc (t : TimingTable) (op : Byte) : (s.chargeDelta t op).bc = s.bc := rfl
@[simp] theorem State.chargeDelta_de (t : TimingTable) (op : Byte) : (s.chargeDelta t op).de = s.de := rfl
@[simp] theorem State.chargeDelta_hl (t : TimingTable) (op : Byte) : (s.chargeDelta t op).hl = s.hl := rfl
@[simp] theorem State.chargeDelta_getIdx (t : TimingTable) (op : Byte) (y : Idx) : (s.chargeDelta t op).getIdx y = s.getIdx y := by
  cases y <;> rfl
@[simp] theorem State.bumpR_getReg (k : Nat) (r : Reg8) : (s.bumpR k).getReg r = s.getReg r := by
  cases r <;> rfl
@[simp] theorem State.bumpR_bc (k : Nat) : (s.bumpR k).bc = s.bc := rfl
@[simp] theorem State.bumpR_de (k : Nat) : (s.bumpR k).de = s.de := rfl
@[simp] theorem State.bumpR_hl (k : Nat) : (s.bumpR k).hl = s.hl := rfl
@[simp] theorem State.bumpR_getIdx (k : Nat) (y : Idx) : (s.bumpR k).getIdx y = s.getIdx y := by
  cases y <;> rfl
@[simp] theorem State.setFlags_getReg (m g : Flags) (r : Reg8) : (s.setFlags m g).getReg r = s.getReg r := by
  unfold State.setFlags; split <;> cases r <;> rfl
@[simp] theorem State.setFlags_bc (m g : Flags) : (s.setFlags m g).bc = s.bc := by
  unfold State.setFlags; split <;> rfl
@[simp] theorem State.setFlags_de (m g : Flags) : (s.setFlags m g).de = s.de := by
  unfold State.setFlags; split <;> rfl
@[simp] theorem State.setFlags_hl (m g : Flags) : (s.setFlags m g).hl = s.hl := by
  unfold State.setFlags; split <;> rfl
@[simp] theorem State.setFlags_getIdx (m g : Flags) (y : Idx) : (s.setFlags m g).getIdx y = s.getIdx y := by
  unfold State.setFlags; split <;> cases y <;> rfl
@[simp] theorem State.setIdx_getReg (x : Idx) (v : Word) (r : Reg8) : (s.setIdx x v).getReg r = s.getReg r := by
  cases x <;> cases r <;> rfl
@[simp] theorem State.setIdx_bc (x : Idx) (v : Word) : (s.setIdx x v).bc = s.bc := by
  cases x <;> rfl
@[simp] theorem State.setIdx_de (x : Idx) (v : Word) : (s.setIdx x v).de = s.de := by
  cases x <;> rfl
@[simp] theorem State.setIdx_hl (x : Idx) (v : Word) : (s.setIdx x v).hl = s.hl := by
  cases x <;> rfl

end Sys2Proof.Machine
end

