-- ==== Sys2Proof/Laws/Ops.lean ====
section
/-! SUPPORT. What the shared operations do: the register views, the flag byte, the stack, fetching, the block loop
and the interrupt. -/

namespace Sys2Proof

/-! ## Words and their halves -/

@[simp] theorem Word.hi_ofBytes (h l : Byte) : Word.hi (Word.ofBytes h l) = h := by
  unfold Word.hi Word.ofBytes
  apply BitVec.eq_of_getLsbD_eq
  intro i hi
  simp only [BitVec.getLsbD_extractLsb', hi, decide_true, Bool.true_and]
  rw [BitVec.getLsbD_append]
  simp [hi]

@[simp] theorem Word.lo_ofBytes (h l : Byte) : Word.lo (Word.ofBytes h l) = l := by
  unfold Word.lo Word.ofBytes
  apply BitVec.eq_of_getLsbD_eq
  intro i hi
  simp only [BitVec.getLsbD_extractLsb', hi, decide_true, Bool.true_and]
  rw [BitVec.getLsbD_append]
  simp [hi]

@[simp] theorem Word.ofBytes_hi_lo (w : Word) : Word.ofBytes (Word.hi w) (Word.lo w) = w := by
  unfold Word.hi Word.lo Word.ofBytes
  apply BitVec.eq_of_getLsbD_eq
  intro i hi
  rw [BitVec.getLsbD_append]
  by_cases h : i < 8
  · simp [h]
  · have h8 : i - 8 < 8 := by omega
    have : 8 + (i - 8) = i := by omega
    simp [h, h8, this]

end Sys2Proof

namespace Sys2Proof.Machine

/-! ## Registers and views -/

/-- A register read after a register write. -/
theorem State.getReg_setReg (s : State) (r q : Reg8) (v : Byte) :
    (s.setReg r v).getReg q = if q = r then v else s.getReg q := by
  cases r <;> cases q <;> rfl

/-- An index register read after an index register write. -/
theorem State.getIdx_setIdx (s : State) (x y : Idx) (v : Word) :
    (s.setIdx x v).getIdx y = if y = x then v else s.getIdx y := by
  cases x <;> cases y <;> rfl

/-- Writing a half changes only those eight bits of its index register (10_state.md R34). -/
theorem State.getHalf_setHalf (s : State) (x y : Idx) (j k : Half) (v : Byte) :
    (s.setHalf x j v).getHalf y k = if y = x ∧ k = j then v else s.getHalf y k := by
  cases x <;> cases y <;> cases j <;> cases k <;> simp [State.setHalf, State.getHalf, State.getIdx_setIdx]

@[simp] theorem State.setBc_bc (s : State) (v : Word) : (s.setBc v).bc = v := by simp [State.setBc, State.bc]
@[simp] theorem State.setDe_de (s : State) (v : Word) : (s.setDe v).de = v := by simp [State.setDe, State.de]
@[simp] theorem State.setHl_hl (s : State) (v : Word) : (s.setHl v).hl = v := by simp [State.setHl, State.hl]

/-- A pair read after a pair write. -/
theorem State.getRp_setRp (s : State) (p q : Rp) (v : Word) :
    (s.setRp p v).getRp q = if q = p then v else s.getRp q := by
  cases p <;> cases q <;> first | rfl | simp [State.setRp, State.getRp]

/-! ## The flag byte (40_alu_flags.md R179) -/

@[simp] theorem Flags.unpack_pack (f : Flags) : Flags.unpack f.pack = f := by
  obtain ⟨s, z, f5, h, f3, pv, n, c⟩ := f
  revert s z f5 h f3 pv n c
  decide

@[simp] theorem Flags.pack_unpack (v : Byte) : (Flags.unpack v).pack = v := by
  revert v
  decide +kernel

/-- Under `Exact` the marked bits take the stated values (00_scope.md R11). -/
theorem State.setFlags_exact {s : State} (h : s.params.undocFlags = .exact) (m f : Flags) :
    s.setFlags m f = { s with f := f } := by simp [State.setFlags, h]

/-- Under `Draw` the marked bits are a fresh free value (00_scope.md R11). -/
theorem State.setFlags_draw {s : State} (h : s.params.undocFlags = .draw) (m f : Flags) :
    s.setFlags m f =
      { s with f := Flags.mix m f (Flags.unpack (Config.freeFlags s.draws)), draws := s.draws + 1 } := by
  simp [State.setFlags, h]

/-! ## The refresh register (10_state.md R38) -/

/-- Under `Static` a fetch leaves R alone. -/
theorem State.bumpR_static {s : State} (h : s.params.refresh = .static) (k : Nat) : s.bumpR k = s := by
  simp [State.bumpR, h]

/-- Raising R by `j` and then by `k` is raising it by `j + k`. -/
theorem refreshBy_add (r : Byte) (j k : Nat) : refreshBy (refreshBy r j) k = refreshBy r (j + k) := by
  unfold refreshBy
  apply BitVec.eq_of_toNat_eq
  have := r.isLt
  simp only [BitVec.toNat_ofNat]
  omega

/-! ## Fetching (20_memory.md R100) -/

/-- Fetching moves PC. -/
@[simp] theorem State.fetchMany_pc (s : State) (k : Nat) : (s.fetchMany k).pc = s.pc + BitVec.ofNat 16 k := by
  induction k generalizing s with
  | zero => simp [State.fetchMany]
  | succ k ih =>
    rw [State.fetchMany, ih]
    apply BitVec.eq_of_toNat_eq
    simp [BitVec.toNat_add]
    omega

/-- Fetching changes nothing but PC and the trace. -/
theorem State.fetchMany_frame (s : State) (k : Nat) :
    s.fetchMany k = { s with pc := (s.fetchMany k).pc, trace := (s.fetchMany k).trace } := by
  induction k generalizing s with
  | zero => rfl
  | succ k ih => rw [State.fetchMany, ih]; rfl

/-- In plain RAM the bytes fetched are the cells from PC on. -/
theorem State.fetchedBytes_ram {s : State} (h : s.params.memModel = .ram) (k : Nat) :
    s.fetchedBytes k = (List.range k).map fun j => Memory.read s.mem (s.pc + BitVec.ofNat 16 j).toNat := by
  induction k generalizing s with
  | zero => rfl
  | succ k ih =>
    rw [State.fetchedBytes, ih (s := s.fetch) (by simpa using h), List.range_succ_eq_map]
    simp only [List.map_cons, List.map_map, State.fetch_mem, State.fetch_pc]
    congr 1
    · simp [State.byteAt, h]
    · apply List.map_congr_left
      intro j _
      have : s.pc + 1 + BitVec.ofNat 16 j = s.pc + BitVec.ofNat 16 (j + 1) := by
        apply BitVec.eq_of_toNat_eq
        simp [BitVec.toNat_add]
        omega
      simp only [Function.comp_apply, this, Nat.succ_eq_add_one]

@[simp] theorem State.fetchedBytes_length (s : State) (k : Nat) : (s.fetchedBytes k).length = k := by
  induction k generalizing s with
  | zero => rfl
  | succ k ih => simp [State.fetchedBytes, ih]

/-! ## The block loop (43_block.md R280) -/

/-- A property that every element and every charge between elements keeps holds after the loop. -/
theorem blockLoop_keeps {P : State → Prop} {elem : State → State} {cont : State → Bool} {op : Byte}
    (helem : ∀ s, P s → P (elem s)) (hmore : ∀ s, P s → P ((s.chargeDelta s.timing.edAlt op).bumpR 2)) :
    ∀ k s, P s → P (blockLoop elem cont op k s)
  | 0, _, h => h
  | k + 1, s, h => by
    simp only [blockLoop]
    split
    · exact blockLoop_keeps helem hmore k _ (hmore _ (helem s h))
    · exact helem s h

/-- One element, and the rest of the loop where it goes on. -/
theorem blockLoop_succ (elem : State → State) (cont : State → Bool) (op : Byte) (k : Nat) (s : State) :
    blockLoop elem cont op (k + 1) s =
      if cont (elem s) then
        blockLoop elem cont op k (((elem s).chargeDelta (elem s).timing.edAlt op).bumpR 2)
      else elem s := rfl

/-! ## The interrupt (60_exceptions.md R501, 47_control.md R433) -/

/-- Everything an NMI acceptance changes. -/
theorem State.acceptNmi_eq (s : State) :
    s.acceptNmi =
      { s with
        nmi := false, halt := false, iff1 := false
        sp := s.sp - 2
        mem := s.storeWord (s.sp - 2) s.nmiReturn
        trace := .write16 (s.sp - 2) s.nmiReturn :: s.trace
        pc := nmiVector
        tStates := s.tStates + s.params.nmiTStates
        r := (s.bumpR 1).r } := rfl

/-- Everything a return from the handler changes. -/
theorem State.returnFromNmi_eq (s : State) :
    s.returnFromNmi =
      { s with
        pc := s.popValue, iff1 := s.iff2, sp := s.sp + 2
        trace := .read16 s.sp s.popValue :: s.trace } := rfl

end Sys2Proof.Machine
end

