-- ==== Sys2Proof/Laws/Frame.lean ====
section
/-! SUPPORT. What each shared operation leaves unchanged, and what it gives for memory, F and R, in the words of
Safety. -/

namespace Sys2Proof.Machine

/-- Nothing changes in no step. -/
theorem Unchanged.refl (l : List Part) (s : State) : Unchanged l s s := by
  simp [Unchanged]

/-- More parts may be named as changed. -/
theorem Unchanged.mono {l l' : List Part} (h : ∀ p, p ∈ l → p ∈ l') {s t : State} (u : Unchanged l s t) :
    Unchanged l' s t := by
  have n : ∀ p, p ∉ l' → p ∉ l := fun p hp hq => hp (h p hq)
  obtain ⟨u1, u2, u3, u4, u5, u6, u7, u8, u9, u10, u11, u12, u13, u14, u15, u16, u17, u18, u19, u20, u21⟩ := u
  exact ⟨fun q hq => u1 q (n _ hq), fun hq => u2 (n _ hq), fun hq => u3 (n _ hq), fun hq => u4 (n _ hq),
    fun hq => u5 (n _ hq), fun hq => u6 (n _ hq), fun hq => u7 (n _ hq), fun hq => u8 (n _ hq),
    fun hq => u9 (n _ hq), fun hq => u10 (n _ hq), fun hq => u11 (n _ hq), fun hq => u12 (n _ hq),
    fun hq => u13 (n _ hq), fun hq => u14 (n _ hq), fun hq => u15 (n _ hq), fun hq => u16 (n _ hq),
    fun hq => u17 (n _ hq), fun hq => u18 (n _ hq), fun hq => u19 (n _ hq), fun hq => u20 (n _ hq), u21⟩

/-- What two changes leave alone, both together leave alone. -/
theorem Unchanged.trans {l : List Part} {s t u : State} (h : Unchanged l s t) (k : Unchanged l t u) :
    Unchanged l s u := by
  obtain ⟨h1, h2, h3, h4, h5, h6, h7, h8, h9, h10, h11, h12, h13, h14, h15, h16, h17, h18, h19, h20, h21, h22,
    h23, h24⟩ := h
  obtain ⟨k1, k2, k3, k4, k5, k6, k7, k8, k9, k10, k11, k12, k13, k14, k15, k16, k17, k18, k19, k20, k21, k22,
    k23, k24⟩ := k
  refine ⟨fun q hq => (k1 q hq).trans (h1 q hq), fun hq => (k2 hq).trans (h2 hq), fun hq => ?_,
    fun hq => (k4 hq).trans (h4 hq), fun hq => (k5 hq).trans (h5 hq), fun hq => (k6 hq).trans (h6 hq),
    fun hq => (k7 hq).trans (h7 hq), fun hq => (k8 hq).trans (h8 hq), fun hq => (k9 hq).trans (h9 hq),
    fun hq => (k10 hq).trans (h10 hq), fun hq => (k11 hq).trans (h11 hq), fun hq => (k12 hq).trans (h12 hq),
    fun hq => (k13 hq).trans (h13 hq), fun hq => (k14 hq).trans (h14 hq), fun hq => (k15 hq).trans (h15 hq),
    fun hq => (k16 hq).trans (h16 hq), fun hq => ?_,
    fun hq => (k18 hq).trans (h18 hq), fun hq => (k19 hq).trans (h19 hq), fun hq => (k20 hq).trans (h20 hq),
    k21.trans h21, k22.trans h22, k23.trans h23, k24.trans h24⟩
  · have a := h3 hq; have b := k3 hq; simp_all
  · have a := h17 hq; have b := k17 hq; simp_all

/-- A register write. -/
theorem unchanged_setReg (s : State) (r : Reg8) (v : Byte) : Unchanged [.reg r] s (s.setReg r v) := by
  cases r <;> simp [Unchanged, State.setReg] <;> (intro q hq; cases q <;> simp_all [State.getReg])

/-- An index register write. -/
theorem unchanged_setIdx (s : State) (x : Idx) (v : Word) :
    Unchanged [match x with | .ix => .ix | .iy => .iy] s (s.setIdx x v) := by
  cases x <;> simp [Unchanged, State.setIdx] <;> (intro q; cases q <;> rfl)

/-- An index half write. -/
theorem unchanged_setHalf (s : State) (x : Idx) (k : Half) (v : Byte) :
    Unchanged [match x with | .ix => .ix | .iy => .iy] s (s.setHalf x k v) := by
  cases k <;> exact unchanged_setIdx _ _ _

/-- A write of F. -/
theorem unchanged_setFlags (s : State) (m f : Flags) : Unchanged [.f, .draws] s (s.setFlags m f) := by
  unfold State.setFlags; split <;> simp [Unchanged] <;> (intro q; cases q <;> rfl)

/-- A byte read. -/
theorem unchanged_read8 (s : State) (a : Word) : Unchanged [.trace] s (s.read8 a) := by
  simp [Unchanged]

/-- A word read. -/
theorem unchanged_read16 (s : State) (a : Word) : Unchanged [.trace] s (s.read16 a) := by
  simp [Unchanged]

/-- A byte write. -/
theorem unchanged_write8 (s : State) (a : Word) (v : Byte) : Unchanged [.mem, .trace] s (s.write8 a v) := by
  simp [Unchanged]

/-- A word write. -/
theorem unchanged_write16 (s : State) (a v : Word) : Unchanged [.mem, .trace] s (s.write16 a v) := by
  simp [Unchanged]

/-- A refresh count. -/
theorem unchanged_bumpR (s : State) (k : Nat) : Unchanged [.r] s (s.bumpR k) := by
  simp [Unchanged]

/-- A charge. -/
theorem unchanged_charge (s : State) (k : Nat) : Unchanged [.tStates] s (s.charge k) := by
  simp [Unchanged]

/-- Fetches. -/
theorem unchanged_fetchMany (s : State) (k : Nat) : Unchanged [.pc, .trace] s (s.fetchMany k) := by
  rw [State.fetchMany_frame]; simp [Unchanged]; (intro q; cases q <;> rfl)

/-- What the refresh policy gives (10_state.md R38). -/
theorem refreshGives_bumpR (s : State) (k : Nat) : RefreshGives k s (s.bumpR k) := by
  constructor
  · intro h; simp [State.bumpR, h]
  · intro h
    simp only [State.bumpR, h, refreshBy, bit]
    have := s.r.isLt
    constructor
    · simp only [BitVec.getLsbD, BitVec.toNat_ofNat, Nat.testBit_eq_decide_div_mod_eq]
      rw [decide_eq_decide]
      omega
    · simp only [BitVec.toNat_ofNat]; omega

/-- What `setFlags` gives under either policy (00_scope.md R11). -/
theorem flagsGive_setFlags {s t : State} (h : t.params = s.params) (m f : Flags) :
    FlagsGive m f s (t.setFlags m f) := by
  unfold FlagsGive State.setFlags
  rw [h]
  cases hh : s.params.undocFlags 
  · simp
  · simp [Flags.mix]
    refine ⟨?_, ?_, ?_, ?_, ?_, ?_, ?_, ?_⟩ <;> intro hm <;> simp [hm]

/-- A byte write stores its byte. -/
theorem storesByte_write8 {s t : State} (h : t.params = s.params) (hm : t.mem = s.mem) (a : Word) (v : Byte) :
    StoresByte a v s (t.write8 a v) := by
  constructor
  · intro h1 h2 b; rw [State.write8_mem, State.storeByte_read (by rw [h]; exact h1) (by rw [hm]; exact h2), hm]
  · intro h1; rw [State.write8_mem, State.storeByte_collaborator (by rw [h]; exact h1), hm]

/-- A word write stores its word. -/
theorem storesWord_write16 {s t : State} (h : t.params = s.params) (hm : t.mem = s.mem) (a v : Word) :
    StoresWord a v s (t.write16 a v) := by
  constructor
  · intro h1 h2 b; rw [State.write16_mem, State.storeWord_read (by rw [h]; exact h1) (by rw [hm]; exact h2), hm]
    have : a ≠ a + 1 := by intro h; have := congrArg (· - a) h; simp at this
    split <;> split <;> simp_all
  · intro h1; rw [State.write16_mem, State.storeWord_collaborator (by rw [h]; exact h1), hm]

/-- A pair write. -/
theorem unchanged_setHl (s : State) (v : Word) : Unchanged [.reg .h, .reg .l] s (s.setHl v) := by
  simp [Unchanged]
  intro q
  cases q <;> simp [State.getReg]

/-- A pair write. -/
theorem unchanged_setDe (s : State) (v : Word) : Unchanged [.reg .d, .reg .e] s (s.setDe v) := by
  simp [Unchanged]
  intro q
  cases q <;> simp [State.getReg]

/-- A pair write. -/
theorem unchanged_setBc (s : State) (v : Word) : Unchanged [.reg .b, .reg .c] s (s.setBc v) := by
  simp [Unchanged]
  intro q
  cases q <;> simp [State.getReg]

/-- A port read. -/
theorem unchanged_ioRead (s : State) (p : Word) : Unchanged [.ioIn, .trace] s (s.ioRead p) := by
  simp [Unchanged]

/-- A port write. -/
theorem unchanged_ioWrite (s : State) (p : Word) (v : Byte) : Unchanged [.trace] s (s.ioWrite p v) := by
  simp [Unchanged]

/-- A push. -/
theorem unchanged_push16 (s : State) (v : Word) : Unchanged [.sp, .mem, .trace] s (s.push16 v) := by
  simp [Unchanged]
  intro q
  cases q <;> rfl

/-- A pop. -/
theorem unchanged_afterPop (s : State) : Unchanged [.sp, .trace] s s.afterPop := by
  simp [Unchanged]
  intro q
  cases q <;> rfl

end Sys2Proof.Machine
end

