-- ==== Sys2Proof/Laws/Run.lean ====
section
/-! SUPPORT. Discarded prefixes: when a step goes on behind a byte and where it then stands, that the chain of them is
followed however long it is, the step as an equation without a bound, and what a stop at decode leaves. -/

namespace Sys2Proof.Machine

/-! ## One byte -/

/-- The meaning of a discarded byte changes nothing (30_encoding.md R137). -/
theorem exec_discarded {i : Instr} (h : i.isDiscarded = true) (s : State) : exec i s = .next s := by
  unfold Instr.isDiscarded at h
  split at h
  · rfl
  · rfl
  · cases h

/-- The state behind a discarded byte, its cycles charged. -/
theorem State.dispatched_discarded {i : Instr} (h : i.isDiscarded = true) (s : State) :
    s.dispatched i 4 = s.behindDiscard := by
  simp [State.dispatched, Instr.length, h, State.fetchMany, State.behindDiscard, State.fetch, State.note, State.bumpR,
    State.charge]

/-- A discarded byte is charged 4 whatever the tables hold (70_reset_and_hazards.md R567). -/
theorem primaryCharge_discarded {i : Instr} (h : i.isDiscarded = true) (t : TimingTables) (bs : List Byte) :
    primaryCharge t i bs = some 4 := by
  simp [primaryCharge, h]

/-- At a discarded byte the step goes on. -/
theorem State.runOnce_discards {s : State} (h : s.discards = true) (t0 : Nat) :
    s.runOnce t0 = .goesOn s.behindDiscard := by
  unfold State.discards at h
  unfold State.runOnce
  dsimp only
  cases hdec : decode s.bytesAtPc with
  | error e => rw [hdec] at h; cases h
  | ok i =>
    rw [hdec] at h
    obtain ⟨hd, he⟩ := Bool.and_eq_true_iff.mp h
    dsimp only
    rw [if_pos he, primaryCharge_discarded hd]
    dsimp only
    rw [exec_discarded hd, State.dispatched_discarded hd]
    exact if_pos hd

/-- At any other byte the step ends. -/
theorem State.runOnce_ends {s : State} (h : s.discards = false) (t0 : Nat) : ∃ o, s.runOnce t0 = .ends o := by
  unfold State.discards at h
  unfold State.runOnce
  dsimp only
  cases hdec : decode s.bytesAtPc with
  | error e => exact ⟨_, rfl⟩
  | ok i =>
    rw [hdec] at h
    dsimp only
    split
    · next he =>
      have hd : i.isDiscarded = false := by simpa [he] using h
      split
      · exact ⟨_, rfl⟩
      · split <;> simp [hd]
    · exact ⟨_, rfl⟩

/-- The step goes on behind a byte exactly where it discards it, and then in `behindDiscard`. -/
theorem State.runOnce_goesOn_iff {t0 : Nat} {s s' : State} :
    s.runOnce t0 = .goesOn s' ↔ s.discards = true ∧ s' = s.behindDiscard := by
  cases h : s.discards with
  | true => simp [State.runOnce_discards h, eq_comm]
  | false =>
    obtain ⟨o, e⟩ := State.runOnce_ends h t0
    simp [e]

/-! ## The chain -/

/-- A chain of `k` discarded bytes is followed to behind it. -/
theorem runChain_discards (t0 : Nat) : ∀ {k : Nat} {s : State}, DiscardsFor k s → runChain t0 k s = .goesOn (s.behind k)
  | 0, _, _ => rfl
  | _ + 1, _, h => by
    rw [runChain, State.runOnce_discards h.1]
    exact runChain_discards t0 h.2

/-- The chain goes on exactly where all its bytes are discarded. -/
theorem runChain_goesOn_iff {t0 k : Nat} {s s' : State} :
    runChain t0 k s = .goesOn s' ↔ DiscardsFor k s ∧ s' = s.behind k := by
  refine ⟨fun h => ?_, fun ⟨h, e⟩ => e ▸ runChain_discards t0 h⟩
  induction k generalizing s with
  | zero => exact ⟨trivial, by cases h; rfl⟩
  | succ k ih =>
    rw [runChain] at h
    cases hd : s.discards with
    | true =>
      rw [State.runOnce_discards hd] at h
      exact ⟨⟨hd, (ih h).1⟩, (ih h).2⟩
    | false =>
      obtain ⟨o, e⟩ := State.runOnce_ends hd t0
      rw [e] at h
      cases h

/-- Behind a discarded byte `runOn` goes on. -/
theorem runOn_discards {s : State} (h : s.discards = true) (t0 : Nat) : runOn t0 s = runOn t0 s.behindDiscard := by
  rw [runOn, State.runOnce_discards h]

/-- `runOn` ends where the bytes at PC end the step. -/
theorem runOn_of_ends {s : State} {t0 : Nat} {o : Out} (h : s.runOnce t0 = .ends o) : runOn t0 s = some o := by
  rw [runOn, h]

/-- Behind any number of discarded bytes `runOn` goes on. -/
theorem runOn_behind (t0 : Nat) : ∀ {k : Nat} {s : State}, DiscardsFor k s → runOn t0 s = runOn t0 (s.behind k)
  | 0, _, _ => rfl
  | _ + 1, _, h => by rw [runOn_discards h.1, runOn_behind t0 h.2]; rfl

/-- What `runOn` answers, a chain of some length answers. -/
theorem runOn_eq_some {t0 : Nat} {s : State} {o : Out} (h : runOn t0 s = some o) : ∃ k, runChain t0 k s = .ends o := by
  refine runOn.partial_correctness t0 (fun s o => ∃ k, runChain t0 k s = .ends o) ?_ s o h
  intro f ih s o h
  cases e : s.runOnce t0 with
  | goesOn s' =>
    rw [e] at h
    obtain ⟨k, hk⟩ := ih s' o h
    exact ⟨k + 1, by rw [runChain, e]; exact hk⟩
  | ends o' =>
    rw [e] at h
    cases h
    exact ⟨1, by rw [runChain, e]⟩

/-- What a chain of some length answers, `runOn` answers. -/
theorem runOn_of_runChain (t0 : Nat) {o : Out} {k : Nat} {s : State} (h : runChain t0 k s = .ends o) :
    runOn t0 s = some o := by
  induction k generalizing s with
  | zero => cases h
  | succ k ih =>
    rw [runChain] at h
    cases e : s.runOnce t0 with
    | goesOn s' =>
      rw [e] at h
      rw [runOn, e]
      exact ih h
    | ends o' =>
      rw [e] at h
      cases h
      exact runOn_of_ends e

/-- `runOn` has no answer exactly where the discarded bytes never end. -/
theorem runOn_eq_none_iff {t0 : Nat} {s : State} : runOn t0 s = none ↔ ∀ k, DiscardsFor k s := by
  constructor
  · intro h k
    cases e : runChain t0 k s with
    | goesOn s' => exact (runChain_goesOn_iff.mp e).1
    | ends o => rw [runOn_of_runChain t0 e] at h; cases h
  · intro h
    cases e : runOn t0 s with
    | none => rfl
    | some o =>
      obtain ⟨k, hk⟩ := runOn_eq_some e
      rw [runChain_discards t0 (h k)] at hk
      cases hk

/-! ## A whole turn of plain RAM -/

/-- In plain RAM, whether a byte is discarded depends on PC, memory and the parameters alone. -/
theorem State.discards_congr {s u : State} (hr : s.params.memModel = .ram) (hp : u.params = s.params)
    (hm : u.mem = s.mem) (hpc : u.pc = s.pc) : u.discards = s.discards := by
  unfold State.discards State.bytesAtPc
  rw [State.fetchedBytes_ram hr, State.fetchedBytes_ram (by rw [hp]; exact hr), hp, hm, hpc]

@[simp] theorem State.behindDiscard_pc (s : State) : s.behindDiscard.pc = s.pc + 1 := rfl
@[simp] theorem State.behindDiscard_mem (s : State) : s.behindDiscard.mem = s.mem := rfl
@[simp] theorem State.behindDiscard_params (s : State) : s.behindDiscard.params = s.params := rfl

/-- Behind `k` bytes: PC has moved on, memory and the parameters are as before. -/
theorem State.behind_eq (k : Nat) (s : State) :
    (s.behind k).pc = s.pc + BitVec.ofNat 16 k ∧ (s.behind k).mem = s.mem ∧ (s.behind k).params = s.params := by
  induction k generalizing s with
  | zero => exact ⟨by simp [State.behind], rfl, rfl⟩
  | succ k ih =>
    obtain ⟨h1, h2, h3⟩ := ih s.behindDiscard
    refine ⟨?_, h2.trans s.behindDiscard_mem, h3.trans s.behindDiscard_params⟩
    rw [State.behind, h1, State.behindDiscard_pc, BitVec.add_assoc]
    congr 1
    apply BitVec.eq_of_toNat_eq
    simp
    omega

/-- A chain of `j + k` bytes is one of `j` and one of `k` behind it. -/
theorem discardsFor_add (k : Nat) : ∀ {j : Nat} {s : State},
    DiscardsFor (j + k) s ↔ DiscardsFor j s ∧ DiscardsFor k (s.behind j)
  | 0, s => by simp [DiscardsFor, State.behind]
  | j + 1, s => by
    rw [Nat.add_right_comm]
    simp only [DiscardsFor, State.behind, discardsFor_add k, and_assoc]

/-- In plain RAM a chain from a state with the same PC, memory and parameters is the same chain. -/
theorem discardsFor_congr : ∀ {k : Nat} {s u : State}, s.params.memModel = .ram → u.params = s.params → u.mem = s.mem →
    u.pc = s.pc → DiscardsFor k s → DiscardsFor k u
  | 0, _, _, _, _, _, _, _ => trivial
  | k + 1, s, u, hr, hp, hm, hpc, h =>
    ⟨by rw [State.discards_congr hr hp hm hpc]; exact h.1,
      discardsFor_congr (k := k) (s := s.behindDiscard) hr hp hm (by simp [hpc]) h.2⟩

/-- In plain RAM a chain of a whole turn of the address space never ends. -/
theorem discardsFor_turn {s : State} {n : Nat} (hn : n = 65536) (hr : s.params.memModel = .ram)
    (h : DiscardsFor n s) (k : Nat) : DiscardsFor k s := by
  have turns : ∀ m, DiscardsFor (m * n) s := by
    intro m
    induction m with
    | zero => rw [Nat.zero_mul]; trivial
    | succ m ih =>
      obtain ⟨h1, h2, h3⟩ := State.behind_eq (m * n) s
      rw [Nat.succ_mul, discardsFor_add]
      refine ⟨ih, discardsFor_congr hr h3 h2 ?_ h⟩
      have : BitVec.ofNat 16 (m * n) = 0#16 := by
        apply BitVec.eq_of_toNat_eq
        rw [BitVec.toNat_ofNat, hn]
        exact Nat.mul_mod_left m _
      rw [h1, this, BitVec.add_zero]
  have t := turns k
  rw [show k * n = k + (k * n - k) by have := Nat.le_mul_of_pos_right k (show 0 < n by omega); omega] at t
  exact ((discardsFor_add _).mp t).1

/-- The step after NMI sampling, without a bound on the discarded bytes (30_encoding.md R137): the turn of the address
space that `State.run` looks at first changes nothing. -/
theorem State.run_eq (s : State) :
    s.run = (runOn s.tStates s).getD (.fault (.endlessPrefixChain s.pc)) := by
  unfold State.run
  obtain ⟨n, hn⟩ : ∃ n, n = 65536 := ⟨_, rfl⟩
  rw [← hn]
  cases e : runChain s.tStates n s with
  | ends o => rw [runOn_of_runChain _ e, Option.getD_some]
  | goesOn s' =>
    obtain ⟨hk, rfl⟩ := runChain_goesOn_iff.mp e
    rw [runOn_behind _ hk]
    dsimp only
    unfold State.runOut
    rw [(State.behind_eq n s).2.2]
    cases hm : s.params.memModel with
    | ram => rw [← runOn_behind _ hk, runOn_eq_none_iff.mpr (discardsFor_turn hn hm hk), Option.getD_none]
    | collaborator => cases runOn s.tStates (s.behind n) <;> rfl

/-- The step after NMI sampling has no end exactly where the discarded bytes never end. -/
theorem State.run_endless {s : State} (h : ∀ k, DiscardsFor k s) : s.run = .fault (.endlessPrefixChain s.pc) := by
  rw [State.run_eq, runOn_eq_none_iff.mpr h]
  rfl

/-- The step after NMI sampling is what the bytes behind the discarded ones come to. -/
theorem State.run_behind {s : State} {k : Nat} {o : Out} (h : DiscardsFor k s)
    (e : (s.behind k).runOnce s.tStates = .ends o) : s.run = o := by
  rw [State.run_eq, runOn_behind _ h, runOn_of_ends e]
  rfl

/-! ## Where a step stands behind discarded bytes -/

/-- Behind `k` discarded bytes: `k` fetches, and 4 T-states for each. -/
theorem State.behind_fetches (k : Nat) (s : State) :
    (s.behind k).trace = (s.fetchMany k).trace ∧ (s.behind k).tStates = s.tStates + 4 * k := by
  suffices h : ∀ u : State, u.pc = s.pc → u.trace = s.trace → u.mem = s.mem → u.params = s.params →
      (u.behind k).trace = (s.fetchMany k).trace ∧ (u.behind k).tStates = u.tStates + 4 * k from h s rfl rfl rfl rfl
  induction k generalizing s with
  | zero => exact fun u _ h _ _ => ⟨h, rfl⟩
  | succ k ih =>
    intro u h1 h2 h3 h4
    have hb : u.byteAt u.pc = s.byteAt s.pc := by simp [State.byteAt, h1, h2, h3, h4]
    obtain ⟨t1, t2⟩ := ih s.fetch u.behindDiscard (by simp [h1]) (by
      rw [State.fetch_trace, ← hb, ← h1, ← h2]; rfl) h3 h4
    exact ⟨t1, by rw [State.behind, t2]; simp [State.behindDiscard]; omega⟩

/-- Behind discarded bytes nothing but PC, T, R and the trace has changed. -/
theorem State.unchanged_behind (k : Nat) (s : State) : Unchanged [.pc, .tStates, .r, .trace] s (s.behind k) := by
  induction k generalizing s with
  | zero => exact Unchanged.refl _ _
  | succ k ih =>
    refine Unchanged.trans ?_ (ih s.behindDiscard)
    simp [Unchanged, State.behindDiscard]
    intro q
    cases q <;> rfl

/-- R behind `j` and then `k` opcode-byte fetches. -/
theorem RefreshGives.trans {j k : Nat} {s t u : State} (h : RefreshGives j s t) (hp : t.params = s.params)
    (g : RefreshGives k t u) : RefreshGives (j + k) s u := by
  refine ⟨fun e => (g.1 (by rw [hp]; exact e)).trans (h.1 e), fun e => ?_⟩
  obtain ⟨h1, h2⟩ := h.2 e
  obtain ⟨g1, g2⟩ := g.2 (by rw [hp]; exact e)
  exact ⟨g1.trans h1, by omega⟩

/-- R behind `k` discarded bytes (10_state.md R38). -/
theorem State.refreshGives_behind (k : Nat) (s : State) : RefreshGives k s (s.behind k) := by
  induction k generalizing s with
  | zero =>
    have := s.r.isLt
    exact ⟨fun _ => rfl, fun _ => ⟨rfl, by simp [State.behind]⟩⟩
  | succ k ih =>
    have h := RefreshGives.trans (t := s.behindDiscard) (refreshGives_bumpR s 1) rfl (ih s.behindDiscard)
    rwa [Nat.add_comm] at h

/-- The bytes fetched with the discarded ones are theirs and those behind them. -/
theorem State.fetchEvents_behind (n : Nat) (s : State) :
    (s.fetchMany n).trace = fetchEvents s.pc (s.fetchedBytes n) ++ s.trace := by
  induction n generalizing s with
  | zero => rfl
  | succ n ih => rw [State.fetchMany, ih]; simp [State.fetchedBytes, fetchEvents]

/-- `k + n` fetches are `k` and then `n`. -/
theorem State.fetchMany_add (k n : Nat) (s : State) : s.fetchMany (k + n) = (s.fetchMany k).fetchMany n := by
  induction k generalizing s with
  | zero => rw [Nat.zero_add]; rfl
  | succ k ih => rw [Nat.add_right_comm]; exact ih s.fetch

/-- The latch of EI and DI has no part in what is discarded. -/
theorem State.behind_eidi (e : Bool) (k : Nat) (s : State) :
    State.behind k { s with eidi := e } = { s.behind k with eidi := e } := by
  induction k generalizing s with
  | zero => rfl
  | succ k ih => exact ih s.behindDiscard

/-- The latch of EI and DI has no part in the bytes at PC. -/
theorem State.fetchedBytes_eidi (e : Bool) (n : Nat) (s : State) :
    State.fetchedBytes { s with eidi := e } n = s.fetchedBytes n := by
  induction n generalizing s with
  | zero => rfl
  | succ n ih => exact congrArg _ (ih s.fetch)

/-- The latch of EI and DI has no part in what is discarded. -/
theorem discardsFor_eidi (e : Bool) {k : Nat} {s : State} : DiscardsFor k { s with eidi := e } ↔ DiscardsFor k s := by
  induction k generalizing s with
  | zero => exact Iff.rfl
  | succ k ih =>
    refine and_congr ?_ (ih (s := s.behindDiscard))
    unfold State.discards State.bytesAtPc
    rw [State.fetchedBytes_eidi]

/-- A step that takes no NMI is the run of the state with the latch of EI and DI clear (60_exceptions.md R491, R500). -/
theorem step_of_no_nmi {s : State} (h : s.eidi = true ∨ s.nmi = false) : step s = State.run { s with eidi := false } := by
  unfold step State.executeOne
  cases he : s.eidi with
  | true => rfl
  | false =>
    have : { s with eidi := false } = s := by rw [← he]
    have hn : s.nmi = false := h.resolve_left (by simp [he])
    rw [if_neg Bool.false_ne_true, if_neg (by simp [hn]), this]

end Sys2Proof.Machine
end

