-- ==== Sys2Proof/Laws/Timing.lean ====
section
/-! SUPPORT. The default timing specification builds the tables that Machine/Timing.lean writes out. -/

namespace Sys2Proof

/-- The entries of the seven tables. -/
def TimingTables.entries (t : TimingTables) : List (List (Option Nat)) :=
  [t.base.toList, t.cb.toList, t.ed.toList, t.xy.toList, t.xycb.toList, t.baseAlt.toList, t.edAlt.toList]

/-- Tables with the same entries are the same. -/
theorem TimingTables.ext_entries {t u : TimingTables} (h : t.entries = u.entries) : t = u := by
  cases t; cases u
  simp [TimingTables.entries, Vector.toList_inj] at h
  simp [h]

/-- The builder's outcome, by its entries. -/
theorem buildTables_default_entries :
    (buildTables defaultTimingSpec).toOption.map TimingTables.entries = some defaultTables.entries := by
  decide +kernel

/-- The builder of R555 to R566 makes the default tables from the default specification of R560. -/
theorem buildTables_default : buildTables defaultTimingSpec = .ok defaultTables := by
  have h := buildTables_default_entries
  generalize buildTables defaultTimingSpec = r at h
  cases r with
  | error e => cases h
  | ok t => exact congrArg Except.ok (TimingTables.ext_entries (Option.some.inj h))

end Sys2Proof
end

