-- ==== Sys2Proof/Tests/Slice0.lean ====
section
/-! SUPPORT. Tests: ill-formed terms that WellFormed refuses, words of every row that decode, single steps with the
results of spec/95_test_vectors.md (each theorem carries the name of its vector), and for every statement with hypotheses
a concrete state and operands that meet them. -/

namespace Sys2Proof.Tests

open Sys2Proof Sys2Proof.Machine Sys2Proof.Machine.Claims

/-! ## Helpers -/

/-- The reset state under `REFRESH_POLICY = Static`, which reset leaves open (log 3). -/
def base : State := { State.reset with params := { defaultParams with refresh := .static } }

/-- The same with every undocumented encoding enabled. -/
def opened : State :=
  { base with params := { base.params with edUndoc := .execute, ddfdUndoc := .execute, idxcbUndoc := .execute } }

/-- The state with bytes at PC. -/
def loaded (bs : List Byte) (s : State) : State := { s with mem := placeBytes s.mem s.pc bs }

/-- A byte of memory. -/
def cell (s : State) (a : Nat) : Byte := Memory.read s.mem a

/-- The step that runs these bytes at PC completes in a state with the property. -/
def ran (bs : List Byte) (s : State) (p : State → Bool) : Bool :=
  match step (loaded bs s) with
  | .next t => p t
  | .fault _ => false
  | .refused _ => false

/-- The step that runs these bytes at PC stops at decode with T as it was, and the state it leaves has the property. -/
def stopped (bs : List Byte) (s : State) (p : State → Bool) : Bool :=
  match step (loaded bs s) with
  | .fault (.unimplementedOpcode pc info t) => pc == s.pc && info == bs && t.tStates == s.tStates && p t
  | .fault (.timingUnset pc info t) => pc == s.pc && info == bs && t.tStates == s.tStates && p t
  | _ => false

/-- The bytes decode to the instruction. -/
def decodesTo (x : List Byte × Instr) : Bool := decide (decode x.1 = .ok x.2)

/-! ## WellFormed refuses ill-formed terms (30_encoding.md R136, R137) -/

theorem test_wf_neg_alias : (Instr.negAlias 0).wellFormed = false := by decide

theorem test_wf_retn_alias : (Instr.retnAlias 1).wellFormed = false := by decide

theorem test_wf_im0_alias : (Instr.im0Alias 2).wellFormed = false := by decide

theorem test_wf_dd_base : (Instr.ddBase (.ldRN .h 0)).wellFormed = false := by decide

theorem test_wf_fd_base : (Instr.fdBase .jpHL).wellFormed = false := by decide

/-! ## Decoding: a word of every row -/

/-- Words of the base space written out from the encodings of 30_encoding.md, with the instruction of each. -/
def baseWords1 : List (List Byte × Instr) :=
  [ ([0x00], .nop), ([0x08], .exAfAf), ([0x10, 0x9A], .djnz 0x9A), ([0x18, 0x9A], .jr 0x9A),
    ([0x30, 0x9A], .jrCc .nc 0x9A), ([0x31, 0x34, 0x12], .ldRpNn .sp 0x1234), ([0x09], .addHLRp .bc),
    ([0x02], .ldMbcA), ([0x0A], .ldAMbc), ([0x12], .ldMdeA), ([0x1A], .ldAMde),
    ([0x22, 0x34, 0x12], .ldMnnHL 0x1234), ([0x2A, 0x34, 0x12], .ldHLMnn 0x1234),
    ([0x32, 0x34, 0x12], .ldMnnA 0x1234), ([0x3A, 0x34, 0x12], .ldAMnn 0x1234), ([0x13], .incRp .de) ]

/-- Words of the base space written out from the encodings of 30_encoding.md, with the instruction of each. -/
def baseWords2 : List (List Byte × Instr) :=
  [ ([0x2B], .decRp .hl), ([0x1C], .incR .e), ([0x34], .incMhl), ([0x0D], .decR .c), ([0x35], .decMhl),
    ([0x3E, 0x9A], .ldRN .a 0x9A), ([0x36, 0x9A], .ldMhlN 0x9A), ([0x07], .rlca), ([0x0F], .rrca),
    ([0x17], .rla), ([0x1F], .rra), ([0x27], .daa), ([0x2F], .cpl), ([0x37], .scf), ([0x3F], .ccf),
    ([0x62], .ldRR .h .d) ]

/-- Words of the base space written out from the encodings of 30_encoding.md, with the instruction of each. -/
def baseWords3 : List (List Byte × Instr) :=
  [ ([0x46], .ldRMhl .b), ([0x75], .ldMhlR .l), ([0x76], .halt), ([0x83], .addR .e), ([0x86], .addMhl),
    ([0xC6, 0x9A], .addN 0x9A), ([0x89], .adcR .c), ([0x8E], .adcMhl), ([0xCE, 0x9A], .adcN 0x9A),
    ([0x97], .subR .a), ([0x96], .subMhl), ([0xD6, 0x9A], .subN 0x9A), ([0x9C], .sbcR .h), ([0x9E], .sbcMhl),
    ([0xDE, 0x9A], .sbcN 0x9A), ([0xA2], .andR .d) ]

/-- Words of the base space written out from the encodings of 30_encoding.md, with the instruction of each. -/
def baseWords4 : List (List Byte × Instr) :=
  [ ([0xA6], .andMhl), ([0xE6, 0x9A], .andN 0x9A), ([0xA8], .xorR .b), ([0xAE], .xorMhl),
    ([0xEE, 0x9A], .xorN 0x9A), ([0xB5], .orR .l), ([0xB6], .orMhl), ([0xF6, 0x9A], .orN 0x9A),
    ([0xBB], .cpR .e), ([0xBE], .cpMhl), ([0xFE, 0x9A], .cpN 0x9A), ([0xD0], .retCc .nc), ([0xF1], .popQq .af),
    ([0xC5], .pushQq .bc), ([0xC9], .ret), ([0xD9], .exx) ]

/-- Words of the base space written out from the encodings of 30_encoding.md, with the instruction of each. -/
def baseWords5 : List (List Byte × Instr) :=
  [ ([0xE9], .jpHL), ([0xF9], .ldSpHL), ([0xC3, 0x34, 0x12], .jpNn 0x1234), ([0xD3, 0x9A], .outNA 0x9A),
    ([0xDB, 0x9A], .inAN 0x9A), ([0xE3], .exSpHL), ([0xEB], .exDeHL), ([0xF3], .di), ([0xFB], .ei),
    ([0xCD, 0x34, 0x12], .callNn 0x1234), ([0xCA, 0x34, 0x12], .jpCcNn .z 0x1234),
    ([0xF4, 0x34, 0x12], .callCcNn .p 0x1234), ([0xDF], .rst 3) ]

theorem test_decode_base :
    (baseWords1 ++ baseWords2 ++ baseWords3 ++ baseWords4 ++ baseWords5).all decodesTo = true := by decide

/-- Words of the CB space written out from the encodings of 30_encoding.md, with the instruction of each. -/
def cbWords1 : List (List Byte × Instr) :=
  [ ([0xCB, 0x03], .rlcR .e), ([0xCB, 0x06], .rlcMhl), ([0xCB, 0x09], .rrcR .c), ([0xCB, 0x0E], .rrcMhl),
    ([0xCB, 0x17], .rlR .a), ([0xCB, 0x16], .rlMhl), ([0xCB, 0x1C], .rrR .h), ([0xCB, 0x1E], .rrMhl),
    ([0xCB, 0x22], .slaR .d), ([0xCB, 0x26], .slaMhl), ([0xCB, 0x28], .sraR .b), ([0xCB, 0x2E], .sraMhl),
    ([0xCB, 0x35], .sllR .l), ([0xCB, 0x36], .sllMhl), ([0xCB, 0x3B], .srlR .e), ([0xCB, 0x3E], .srlMhl) ]

/-- Words of the CB space written out from the encodings of 30_encoding.md, with the instruction of each. -/
def cbWords2 : List (List Byte × Instr) :=
  [ ([0xCB, 0x47], .bitR 0 .a), ([0xCB, 0x56], .bitMhl 2), ([0xCB, 0xB8], .resR 7 .b),
    ([0xCB, 0x8E], .resMhl 1), ([0xCB, 0xF1], .setR 6 .c), ([0xCB, 0xC6], .setMhl 0) ]

theorem test_decode_cb :
    (cbWords1 ++ cbWords2).all decodesTo = true := by decide

/-- Words of the ED space written out from the encodings of 30_encoding.md, with the instruction of each. -/
def edWords1 : List (List Byte × Instr) :=
  [ ([0xED, 0x60], .inRC .h), ([0xED, 0x70], .inFC), ([0xED, 0x51], .outCR .d), ([0xED, 0x71], .outC0),
    ([0xED, 0x72], .sbcHLRp .sp), ([0xED, 0x4A], .adcHLRp .bc), ([0xED, 0x53, 0x34, 0x12], .ldMnnRp .de 0x1234),
    ([0xED, 0x6B, 0x34, 0x12], .ldRpMnn .hl 0x1234), ([0xED, 0x44], .neg), ([0xED, 0x7C], .negAlias 7),
    ([0xED, 0x45], .retn), ([0xED, 0x4D], .reti), ([0xED, 0x75], .retnAlias 6), ([0xED, 0x46], .im0),
    ([0xED, 0x56], .im1), ([0xED, 0x5E], .im2) ]

/-- Words of the ED space written out from the encodings of 30_encoding.md, with the instruction of each. -/
def edWords2 : List (List Byte × Instr) :=
  [ ([0xED, 0x4E], .im0Alias 1), ([0xED, 0x76], .im1Alias), ([0xED, 0x7E], .im2Alias), ([0xED, 0x47], .ldIA),
    ([0xED, 0x4F], .ldRA), ([0xED, 0x57], .ldAI), ([0xED, 0x5F], .ldAR), ([0xED, 0x67], .rrd),
    ([0xED, 0x6F], .rld), ([0xED, 0xA0], .ldi), ([0xED, 0xA1], .cpi), ([0xED, 0xA2], .ini),
    ([0xED, 0xA3], .outi), ([0xED, 0xA8], .ldd), ([0xED, 0xA9], .cpd), ([0xED, 0xAA], .ind) ]

/-- Words of the ED space written out from the encodings of 30_encoding.md, with the instruction of each. -/
def edWords3 : List (List Byte × Instr) :=
  [ ([0xED, 0xAB], .outd), ([0xED, 0xB0], .ldir), ([0xED, 0xB1], .cpir), ([0xED, 0xB2], .inir),
    ([0xED, 0xB3], .otir), ([0xED, 0xB8], .lddr), ([0xED, 0xB9], .cpdr), ([0xED, 0xBA], .indr),
    ([0xED, 0xBB], .otdr) ]

theorem test_decode_ed :
    (edWords1 ++ edWords2 ++ edWords3).all decodesTo = true := by decide

/-- Words of the DD space written out from the encodings of 30_encoding.md, with the instruction of each. -/
def ddWords1 : List (List Byte × Instr) :=
  [ ([0xDD, 0x29], .addIXRp .xy), ([0xDD, 0x21, 0x34, 0x12], .ldIXNn 0x1234),
    ([0xDD, 0x22, 0x34, 0x12], .ldMnnIX 0x1234), ([0xDD, 0x2A, 0x34, 0x12], .ldIXMnn 0x1234),
    ([0xDD, 0x23], .incIX), ([0xDD, 0x2B], .decIX), ([0xDD, 0x24], .incIXH), ([0xDD, 0x25], .decIXH),
    ([0xDD, 0x2C], .incIXL), ([0xDD, 0x2D], .decIXL), ([0xDD, 0x26, 0x9A], .ldIXHN 0x9A),
    ([0xDD, 0x2E, 0x9A], .ldIXLN 0x9A), ([0xDD, 0x34, 0x85], .incMixd 0x85),
    ([0xDD, 0x35, 0x85], .decMixd 0x85), ([0xDD, 0x36, 0x85, 0x9A], .ldMixdN 0x85 0x9A), ([0xDD, 0xE1], .popIX) ]

/-- Words of the DD space written out from the encodings of 30_encoding.md, with the instruction of each. -/
def ddWords2 : List (List Byte × Instr) :=
  [ ([0xDD, 0xE3], .exSpIX), ([0xDD, 0xE5], .pushIX), ([0xDD, 0xE9], .jpIX), ([0xDD, 0xF9], .ldSpIX),
    ([0xDD, 0x6E, 0x85], .ldRMixd .l 0x85), ([0xDD, 0x73, 0x85], .ldMixdR 0x85 .e), ([0xDD, 0x44], .ldBIXH),
    ([0xDD, 0x45], .ldBIXL), ([0xDD, 0x4C], .ldCIXH), ([0xDD, 0x4D], .ldCIXL), ([0xDD, 0x54], .ldDIXH),
    ([0xDD, 0x55], .ldDIXL), ([0xDD, 0x5C], .ldEIXH), ([0xDD, 0x5D], .ldEIXL), ([0xDD, 0x60], .ldIXHB),
    ([0xDD, 0x61], .ldIXHC) ]

/-- Words of the DD space written out from the encodings of 30_encoding.md, with the instruction of each. -/
def ddWords3 : List (List Byte × Instr) :=
  [ ([0xDD, 0x62], .ldIXHD), ([0xDD, 0x63], .ldIXHE), ([0xDD, 0x64], .ldIXHIXH), ([0xDD, 0x65], .ldIXHIXL),
    ([0xDD, 0x67], .ldIXHA), ([0xDD, 0x68], .ldIXLB), ([0xDD, 0x69], .ldIXLC), ([0xDD, 0x6A], .ldIXLD),
    ([0xDD, 0x6B], .ldIXLE), ([0xDD, 0x6C], .ldIXLIXH), ([0xDD, 0x6D], .ldIXLIXL), ([0xDD, 0x6F], .ldIXLA),
    ([0xDD, 0x7C], .ldAIXH), ([0xDD, 0x7D], .ldAIXL), ([0xDD, 0x86, 0x85], .addMixd 0x85),
    ([0xDD, 0x84], .addIXH) ]

/-- Words of the DD space written out from the encodings of 30_encoding.md, with the instruction of each. -/
def ddWords4 : List (List Byte × Instr) :=
  [ ([0xDD, 0x85], .addIXL), ([0xDD, 0x8E, 0x85], .adcMixd 0x85), ([0xDD, 0x8C], .adcIXH),
    ([0xDD, 0x8D], .adcIXL), ([0xDD, 0x96, 0x85], .subMixd 0x85), ([0xDD, 0x94], .subIXH),
    ([0xDD, 0x95], .subIXL), ([0xDD, 0x9E, 0x85], .sbcMixd 0x85), ([0xDD, 0x9C], .sbcIXH),
    ([0xDD, 0x9D], .sbcIXL), ([0xDD, 0xA6, 0x85], .andMixd 0x85), ([0xDD, 0xA4], .andIXH),
    ([0xDD, 0xA5], .andIXL), ([0xDD, 0xAE, 0x85], .xorMixd 0x85), ([0xDD, 0xAC], .xorIXH),
    ([0xDD, 0xAD], .xorIXL) ]

/-- Words of the DD space written out from the encodings of 30_encoding.md, with the instruction of each. -/
def ddWords5 : List (List Byte × Instr) :=
  [ ([0xDD, 0xB6, 0x85], .orMixd 0x85), ([0xDD, 0xB4], .orIXH), ([0xDD, 0xB5], .orIXL),
    ([0xDD, 0xBE, 0x85], .cpMixd 0x85), ([0xDD, 0xBC], .cpIXH), ([0xDD, 0xBD], .cpIXL),
    ([0xDD, 0x06, 0x9A], .ddBase (.ldRN .b 0x9A)), ([0xDD, 0xDD], .ddDiscarded .dd),
    ([0xDD, 0xED, 0x47], .ddDiscarded .ed) ]

theorem test_decode_dd :
    (ddWords1 ++ ddWords2 ++ ddWords3 ++ ddWords4 ++ ddWords5).all decodesTo = true := by decide

/-- Words of the FD space written out from the encodings of 30_encoding.md, with the instruction of each. -/
def fdWords1 : List (List Byte × Instr) :=
  [ ([0xFD, 0x19], .addIYRp .de), ([0xFD, 0x21, 0x34, 0x12], .ldIYNn 0x1234),
    ([0xFD, 0x22, 0x34, 0x12], .ldMnnIY 0x1234), ([0xFD, 0x2A, 0x34, 0x12], .ldIYMnn 0x1234),
    ([0xFD, 0x23], .incIY), ([0xFD, 0x2B], .decIY), ([0xFD, 0x24], .incIYH), ([0xFD, 0x25], .decIYH),
    ([0xFD, 0x2C], .incIYL), ([0xFD, 0x2D], .decIYL), ([0xFD, 0x26, 0x9A], .ldIYHN 0x9A),
    ([0xFD, 0x2E, 0x9A], .ldIYLN 0x9A), ([0xFD, 0x34, 0x85], .incMiyd 0x85),
    ([0xFD, 0x35, 0x85], .decMiyd 0x85), ([0xFD, 0x36, 0x85, 0x9A], .ldMiydN 0x85 0x9A), ([0xFD, 0xE1], .popIY) ]

/-- Words of the FD space written out from the encodings of 30_encoding.md, with the instruction of each. -/
def fdWords2 : List (List Byte × Instr) :=
  [ ([0xFD, 0xE3], .exSpIY), ([0xFD, 0xE5], .pushIY), ([0xFD, 0xE9], .jpIY), ([0xFD, 0xF9], .ldSpIY),
    ([0xFD, 0x7E, 0x85], .ldRMiyd .a 0x85), ([0xFD, 0x74, 0x85], .ldMiydR 0x85 .h), ([0xFD, 0x44], .ldBIYH),
    ([0xFD, 0x45], .ldBIYL), ([0xFD, 0x4C], .ldCIYH), ([0xFD, 0x4D], .ldCIYL), ([0xFD, 0x54], .ldDIYH),
    ([0xFD, 0x55], .ldDIYL), ([0xFD, 0x5C], .ldEIYH), ([0xFD, 0x5D], .ldEIYL), ([0xFD, 0x60], .ldIYHB),
    ([0xFD, 0x61], .ldIYHC) ]

/-- Words of the FD space written out from the encodings of 30_encoding.md, with the instruction of each. -/
def fdWords3 : List (List Byte × Instr) :=
  [ ([0xFD, 0x62], .ldIYHD), ([0xFD, 0x63], .ldIYHE), ([0xFD, 0x64], .ldIYHIYH), ([0xFD, 0x65], .ldIYHIYL),
    ([0xFD, 0x67], .ldIYHA), ([0xFD, 0x68], .ldIYLB), ([0xFD, 0x69], .ldIYLC), ([0xFD, 0x6A], .ldIYLD),
    ([0xFD, 0x6B], .ldIYLE), ([0xFD, 0x6C], .ldIYLIYH), ([0xFD, 0x6D], .ldIYLIYL), ([0xFD, 0x6F], .ldIYLA),
    ([0xFD, 0x7C], .ldAIYH), ([0xFD, 0x7D], .ldAIYL), ([0xFD, 0x86, 0x85], .addMiyd 0x85),
    ([0xFD, 0x84], .addIYH) ]

/-- Words of the FD space written out from the encodings of 30_encoding.md, with the instruction of each. -/
def fdWords4 : List (List Byte × Instr) :=
  [ ([0xFD, 0x85], .addIYL), ([0xFD, 0x8E, 0x85], .adcMiyd 0x85), ([0xFD, 0x8C], .adcIYH),
    ([0xFD, 0x8D], .adcIYL), ([0xFD, 0x96, 0x85], .subMiyd 0x85), ([0xFD, 0x94], .subIYH),
    ([0xFD, 0x95], .subIYL), ([0xFD, 0x9E, 0x85], .sbcMiyd 0x85), ([0xFD, 0x9C], .sbcIYH),
    ([0xFD, 0x9D], .sbcIYL), ([0xFD, 0xA6, 0x85], .andMiyd 0x85), ([0xFD, 0xA4], .andIYH),
    ([0xFD, 0xA5], .andIYL), ([0xFD, 0xAE, 0x85], .xorMiyd 0x85), ([0xFD, 0xAC], .xorIYH),
    ([0xFD, 0xAD], .xorIYL) ]

/-- Words of the FD space written out from the encodings of 30_encoding.md, with the instruction of each. -/
def fdWords5 : List (List Byte × Instr) :=
  [ ([0xFD, 0xB6, 0x85], .orMiyd 0x85), ([0xFD, 0xB4], .orIYH), ([0xFD, 0xB5], .orIYL),
    ([0xFD, 0xBE, 0x85], .cpMiyd 0x85), ([0xFD, 0xBC], .cpIYH), ([0xFD, 0xBD], .cpIYL),
    ([0xFD, 0xC4, 0x34, 0x12], .fdBase (.callCcNn .nz 0x1234)), ([0xFD, 0xFD], .fdDiscarded .fd),
    ([0xFD, 0xDD, 0x21], .fdDiscarded .dd) ]

theorem test_decode_fd :
    (fdWords1 ++ fdWords2 ++ fdWords3 ++ fdWords4 ++ fdWords5).all decodesTo = true := by decide

/-- Words of the DDCB space written out from the encodings of 30_encoding.md, with the instruction of each. -/
def ddcbWords : List (List Byte × Instr) :=
  [ ([0xDD, 0xCB, 0x85, 0x06], .rlcMixd 0x85), ([0xDD, 0xCB, 0x85, 0x0E], .rrcMixd 0x85),
    ([0xDD, 0xCB, 0x85, 0x16], .rlMixd 0x85), ([0xDD, 0xCB, 0x85, 0x1E], .rrMixd 0x85),
    ([0xDD, 0xCB, 0x85, 0x26], .slaMixd 0x85), ([0xDD, 0xCB, 0x85, 0x2E], .sraMixd 0x85),
    ([0xDD, 0xCB, 0x85, 0x36], .sllMixd 0x85), ([0xDD, 0xCB, 0x85, 0x3E], .srlMixd 0x85),
    ([0xDD, 0xCB, 0x85, 0x46], .bitMixd 0 0x85), ([0xDD, 0xCB, 0x85, 0xAE], .resMixd 5 0x85),
    ([0xDD, 0xCB, 0x85, 0xD6], .setMixd 2 0x85), ([0xDD, 0xCB, 0x85, 0x39], .rotMixdCopy .srl 0x85 .c),
    ([0xDD, 0xCB, 0x85, 0x4C], .bitMixdAlias 1 0x85 .h), ([0xDD, 0xCB, 0x85, 0x98], .resMixdCopy 3 0x85 .b),
    ([0xDD, 0xCB, 0x85, 0xEB], .setMixdCopy 5 0x85 .e) ]

theorem test_decode_ddcb :
    (ddcbWords).all decodesTo = true := by decide

/-- Words of the FDCB space written out from the encodings of 30_encoding.md, with the instruction of each. -/
def fdcbWords : List (List Byte × Instr) :=
  [ ([0xFD, 0xCB, 0x85, 0x06], .rlcMiyd 0x85), ([0xFD, 0xCB, 0x85, 0x0E], .rrcMiyd 0x85),
    ([0xFD, 0xCB, 0x85, 0x16], .rlMiyd 0x85), ([0xFD, 0xCB, 0x85, 0x1E], .rrMiyd 0x85),
    ([0xFD, 0xCB, 0x85, 0x26], .slaMiyd 0x85), ([0xFD, 0xCB, 0x85, 0x2E], .sraMiyd 0x85),
    ([0xFD, 0xCB, 0x85, 0x36], .sllMiyd 0x85), ([0xFD, 0xCB, 0x85, 0x3E], .srlMiyd 0x85),
    ([0xFD, 0xCB, 0x85, 0x7E], .bitMiyd 7 0x85), ([0xFD, 0xCB, 0x85, 0xA6], .resMiyd 4 0x85),
    ([0xFD, 0xCB, 0x85, 0xCE], .setMiyd 1 0x85), ([0xFD, 0xCB, 0x85, 0x30], .rotMiydCopy .sll 0x85 .b),
    ([0xFD, 0xCB, 0x85, 0x43], .bitMiydAlias 0 0x85 .e), ([0xFD, 0xCB, 0x85, 0x97], .resMiydCopy 2 0x85 .a),
    ([0xFD, 0xCB, 0x85, 0xE2], .setMiydCopy 4 0x85 .d) ]

theorem test_decode_fdcb :
    (fdcbWords).all decodesTo = true := by decide

/-! ## Single steps (95_test_vectors.md) -/

/-- Steps of spec/95_test_vectors.md, each under its vector and instruction. -/
def alu8Part1Vectors : List (String × Bool) :=
  [ ("TA1 addN", ran [0xC6, 0x01] { base with a := 0x7F, f := Flags.unpack 0x00 }
        (fun t => t.a == 0x80 && t.f.pack == 0x94)),
    ("TA2 addN", ran [0xC6, 0x01] { base with a := 0xFF, f := Flags.unpack 0x00 }
        (fun t => t.a == 0x00 && t.f.pack == 0x51)),
    ("TA4 adcN", ran [0xCE, 0x00] { base with a := 0xFF, f := Flags.unpack 0x01 }
        (fun t => t.a == 0x00 && t.f.pack == 0x51)),
    ("TA7 subN", ran [0xD6, 0x01] { base with a := 0x10, f := Flags.unpack 0x00 }
        (fun t => t.a == 0x0F && t.f.pack == 0x1A)),
    ("TA8 subN", ran [0xD6, 0x01] { base with a := 0x80, f := Flags.unpack 0x00 }
        (fun t => t.a == 0x7F && t.f.pack == 0x3E)),
    ("TA12 sbcN", ran [0xDE, 0x00] { base with a := 0x00, f := Flags.unpack 0x01 }
        (fun t => t.a == 0xFF && t.f.pack == 0xBB)),
    ("TA15 cpN", ran [0xFE, 0x28] { base with a := 0x10, f := Flags.unpack 0x00 }
        (fun t => t.a == 0x10 && t.f.pack == 0xBB)),
    ("TA18 andN", ran [0xE6, 0x0F] { base with a := 0xF0, f := Flags.unpack 0x00 }
        (fun t => t.a == 0x00 && t.f.pack == 0x54)),
    ("TA20 orN", ran [0xF6, 0x00] { base with a := 0x00, f := Flags.unpack 0x01 }
        (fun t => t.a == 0x00 && t.f.pack == 0x44)),
    ("TA22 xorN", ran [0xEE, 0x0F] { base with a := 0xFF, f := Flags.unpack 0x00 }
        (fun t => t.a == 0xF0 && t.f.pack == 0xA4)),
    ("TA23 xorR", ran [0xAF] { base with a := 0xAA, f := Flags.unpack 0x01 }
        (fun t => t.a == 0x00 && t.f.pack == 0x44)),
    ("TA24 incR", ran [0x3C] { base with a := 0x7F, f := Flags.unpack 0x00 }
        (fun t => t.a == 0x80 && t.f.pack == 0x94)) ]

theorem test_alu8Part1_vectors : (alu8Part1Vectors.all fun v => v.2) = true := by decide

/-- Steps of spec/95_test_vectors.md, each under its vector and instruction. -/
def alu8Part2Vectors : List (String × Bool) :=
  [ ("TA27 decR", ran [0x3D] { base with a := 0x80, f := Flags.unpack 0x00 }
        (fun t => t.a == 0x7F && t.f.pack == 0x3E)),
    ("TA30 neg", ran [0xED, 0x44] { base with a := 0x80, f := Flags.unpack 0x00 }
        (fun t => t.a == 0x80 && t.f.pack == 0x87)),
    ("TA33 cpl", ran [0x2F] { base with a := 0x55, f := Flags.unpack 0x00 }
        (fun t => t.a == 0xAA && t.f.pack == 0x3A)),
    ("TA34 scf", ran [0x37] { base with a := 0x00, f := Flags.unpack 0x00 }
        (fun t => t.a == 0x00 && t.f.pack == 0x01)),
    ("TA35 ccf", ran [0x3F] { base with a := 0x00, f := Flags.unpack 0x01 }
        (fun t => t.a == 0x00 && t.f.pack == 0x10)),
    ("TA37 daa", ran [0x27] { base with a := 0x7D, f := Flags.unpack 0x00 }
        (fun t => t.a == 0x83 && t.f.pack == 0x90)),
    ("TA38 daa", ran [0x27] { base with a := 0x0A, f := Flags.unpack 0x00 }
        (fun t => t.a == 0x10 && t.f.pack == 0x10)) ]

theorem test_alu8Part2_vectors : (alu8Part2Vectors.all fun v => v.2) = true := by decide

/-- Steps of spec/95_test_vectors.md, each under its vector and instruction. -/
def rotateBitPart1Vectors : List (String × Bool) :=
  [ ("TR1 rlcR", ran [0xCB, 0x00] { base with b := 0x80, f := Flags.unpack 0x00 }
        (fun t => t.b == 0x01 && t.f.pack == 0x01)),
    ("TR1m rlcMhl", ran [0xCB, 0x06] { base with h := 0x40, mem := [(0x4000, 0x80)], f := Flags.unpack 0x00 }
        (fun t => cell t 0x4000 == 0x01 && t.f.pack == 0x01 && t.tStates == 15)),
    ("TR3 rrcR", ran [0xCB, 0x08] { base with b := 0x01, f := Flags.unpack 0x00 }
        (fun t => t.b == 0x80 && t.f.pack == 0x81)),
    ("TR3m rrcMhl", ran [0xCB, 0x0E] { base with h := 0x40, mem := [(0x4000, 0x01)], f := Flags.unpack 0x00 }
        (fun t => cell t 0x4000 == 0x80 && t.f.pack == 0x81 && t.tStates == 15)),
    ("TR4 rlR", ran [0xCB, 0x10] { base with b := 0x80, f := Flags.unpack 0x00 }
        (fun t => t.b == 0x00 && t.f.pack == 0x45)),
    ("TR4m rlMhl", ran [0xCB, 0x16] { base with h := 0x40, mem := [(0x4000, 0x80)], f := Flags.unpack 0x00 }
        (fun t => cell t 0x4000 == 0x00 && t.f.pack == 0x45 && t.tStates == 15)),
    ("TR6 rrR", ran [0xCB, 0x18] { base with b := 0x01, f := Flags.unpack 0x01 }
        (fun t => t.b == 0x80 && t.f.pack == 0x81)),
    ("TR6m rrMhl", ran [0xCB, 0x1E] { base with h := 0x40, mem := [(0x4000, 0x01)], f := Flags.unpack 0x01 }
        (fun t => cell t 0x4000 == 0x80 && t.f.pack == 0x81 && t.tStates == 15)),
    ("TR7 slaR", ran [0xCB, 0x20] { base with b := 0xFF, f := Flags.unpack 0x00 }
        (fun t => t.b == 0xFE && t.f.pack == 0xA9)),
    ("TR7m slaMhl", ran [0xCB, 0x26] { base with h := 0x40, mem := [(0x4000, 0xFF)], f := Flags.unpack 0x00 }
        (fun t => cell t 0x4000 == 0xFE && t.f.pack == 0xA9 && t.tStates == 15)),
    ("TR8 sraR", ran [0xCB, 0x28] { base with b := 0x81, f := Flags.unpack 0x00 }
        (fun t => t.b == 0xC0 && t.f.pack == 0x85)),
    ("TR8m sraMhl", ran [0xCB, 0x2E] { base with h := 0x40, mem := [(0x4000, 0x81)], f := Flags.unpack 0x00 }
        (fun t => cell t 0x4000 == 0xC0 && t.f.pack == 0x85 && t.tStates == 15)) ]

theorem test_rotateBitPart1_vectors : (rotateBitPart1Vectors.all fun v => v.2) = true := by decide

/-- Steps of spec/95_test_vectors.md, each under its vector and instruction. -/
def rotateBitPart2Vectors : List (String × Bool) :=
  [ ("TR9 sllR", ran [0xCB, 0x30] { base with b := 0x00, f := Flags.unpack 0x00 }
        (fun t => t.b == 0x01 && t.f.pack == 0x00)),
    ("TR9m sllMhl", ran [0xCB, 0x36] { base with h := 0x40, mem := [], f := Flags.unpack 0x00 }
        (fun t => cell t 0x4000 == 0x01 && t.f.pack == 0x00 && t.tStates == 15)),
    ("TR11 srlR", ran [0xCB, 0x38] { base with b := 0x01, f := Flags.unpack 0x00 }
        (fun t => t.b == 0x00 && t.f.pack == 0x45)),
    ("TR11m srlMhl", ran [0xCB, 0x3E] { base with h := 0x40, mem := [(0x4000, 0x01)], f := Flags.unpack 0x00 }
        (fun t => cell t 0x4000 == 0x00 && t.f.pack == 0x45 && t.tStates == 15)),
    ("TR13 rlca", ran [0x07] { base with a := 0x80, f := Flags.unpack 0xFF }
        (fun t => t.a == 0x01 && t.f.pack == 0xC5)),
    ("TR14 rra", ran [0x1F] { base with a := 0x01, f := Flags.unpack 0x00 }
        (fun t => t.a == 0x00 && t.f.pack == 0x01)),
    ("TR15 rla", ran [0x17] { base with a := 0x55, f := Flags.unpack 0x01 }
        (fun t => t.a == 0xAB && t.f.pack == 0x28)),
    ("TR16 rrca", ran [0x0F] { base with a := 0x10, f := Flags.unpack 0x44 }
        (fun t => t.a == 0x08 && t.f.pack == 0x4C)),
    ("TR17 bitR", ran [0xCB, 0x7F] { base with a := 0x80 }
        (fun t => t.f.pack == 0x90 && t.tStates == 8)),
    ("TR20 bitMhl", ran [0xCB, 0x5E] { base with h := 0x40, mem := [(0x4000, 8)] }
        (fun t => t.f.pack == 0x18 && t.tStates == 12)),
    ("TR21 resMhl", ran [0xCB, 0x86] { base with h := 0x40, mem := [(0x4000, 0xFF)] }
        (fun t => cell t 0x4000 == 0xFE && t.f.pack == 0 && t.tStates == 15)),
    ("TR22 setMixd", ran [0xDD, 0xCB, 0x05, 0xFE] { base with ix := 0x4000 }
        (fun t => cell t 0x4005 == 0x80 && t.pc == 4 && t.tStates == 23)) ]

theorem test_rotateBitPart2_vectors : (rotateBitPart2Vectors.all fun v => v.2) = true := by decide

/-- Steps of spec/95_test_vectors.md, each under its vector and instruction. -/
def rotateBitPart3Vectors : List (String × Bool) :=
  [ ("TR23 rlMiyd", ran [0xFD, 0xCB, 0xFF, 0x16] { base with iy := 0x4001, mem := [(0x4000, 0x80)] }
        (fun t => cell t 0x4000 == 0 && t.f.pack == 0x45 && t.tStates == 23)),
    ("TR25 setMixdCopy", ran [0xDD, 0xCB, 0x05, 0xC0]
        { base with ix := 0x4000, mem := [(0x4005, 0x10)], params := { base.params with idxcbUndoc := .execute } }
        (fun t => cell t 0x4005 == 0x11 && t.b == 0x11 && t.tStates == 23)),
    ("TR26 rld", ran [0xED, 0x6F] { base with a := 0x7A, h := 0x50, mem := [(0x5000, 0x31)] }
        (fun t => cell t 0x5000 == 0x1A && t.a == 0x73 && t.tStates == 18)),
    ("TR27 rrd", ran [0xED, 0x67] { base with a := 0x84, h := 0x50, mem := [(0x5000, 0x20)] }
        (fun t => cell t 0x5000 == 0x42 && t.a == 0x80 && t.tStates == 18)) ]

theorem test_rotateBitPart3_vectors : (rotateBitPart3Vectors.all fun v => v.2) = true := by decide

/-- Steps of spec/95_test_vectors.md, each under its vector and instruction. -/
def alu16Vectors : List (String × Bool) :=
  [ ("V6.0 addHLRp", ran [0x09] { base with h := 0x0F, l := 0xFF, b := 0x00, c := 0x01, f := Flags.unpack 0x00 }
        (fun t => t.hl == 0x1000 && t.f.pack == 0x10)),
    ("V6.2 adcHLRp", ran [0xED, 0x4A] { base with h := 0x0F, l := 0xFF, b := 0x00, c := 0x01, f := Flags.unpack 0x00 }
        (fun t => t.hl == 0x1000 && t.f.pack == 0x10)),
    ("V6.3 adcHLRp", ran [0xED, 0x4A] { base with h := 0x7F, l := 0xFF, b := 0x00, c := 0x01, f := Flags.unpack 0x00 }
        (fun t => t.hl == 0x8000 && t.f.pack == 0x94)),
    ("V6.6 sbcHLRp", ran [0xED, 0x42] { base with h := 0x10, l := 0x00, b := 0x00, c := 0x01, f := Flags.unpack 0x00 }
        (fun t => t.hl == 0x0FFF && t.f.pack == 0x1A)),
    ("V6.7 sbcHLRp", ran [0xED, 0x42] { base with h := 0x80, l := 0x00, b := 0x00, c := 0x01, f := Flags.unpack 0x00 }
        (fun t => t.hl == 0x7FFF && t.f.pack == 0x3E)),
    ("TB6 incRp", ran [0x03] { base with b := 0xFF, c := 0xFF }
        (fun t => t.bc == 0 && t.f.pack == 0)),
    ("TB7 decRp", ran [0x3B] { base with f := Flags.unpack 0xFF }
        (fun t => t.sp == 0xFFFF && t.f.pack == 0xFF)),
    ("TB8 addIXRp", ran [0xDD, 0x29] { base with ix := 0x4000 }
        (fun t => t.ix == 0x8000 && t.f.pack == 0 && t.tStates == 15)) ]

theorem test_alu16_vectors : (alu16Vectors.all fun v => v.2) = true := by decide

/-- Steps of spec/95_test_vectors.md, each under its vector and instruction. -/
def load8Vectors : List (String × Bool) :=
  [ ("TL1 ldRR", ran [0x41] { base with c := 0x5A }
        (fun t => t.b == 0x5A && t.tStates == 4)),
    ("TL2 ldRMixd", ran [0xDD, 0x7E, 0xFF] { base with ix := 0x4000, mem := [(0x3FFF, 0x5A)], pc := 0x0100 }
        (fun t => t.a == 0x5A && t.tStates == 19 && t.pc == 0x103)),
    ("TL3 ldRMiyd", ran [0xFD, 0x7E, 0xFF] { base with mem := [(0xFFFF, 0x11)], pc := 0x0100 }
        (fun t => t.a == 0x11)),
    ("TL4 ldMixdN", ran [0xDD, 0x36, 0x02, 0x99] { base with ix := 0xFFFF, pc := 0x0100 }
        (fun t => cell t 1 == 0x99 && t.tStates == 19 && t.pc == 0x104)),
    ("TL5 ldAMnn", ran [0x3A, 0x00, 0x80] { base with mem := [(0x8000, 0x42)] }
        (fun t => t.a == 0x42 && t.tStates == 13)),
    ("TL6 ldMbcA", ran [0x02] { base with b := 0x12, c := 0x34, a := 0x77 }
        (fun t => cell t 0x1234 == 0x77 && t.tStates == 7)),
    ("TL8 ldIXHB", ran [0xDD, 0x60] { base with b := 0x12, ix := 0x34 }
        (fun t => t.ix == 0x1234 && t.tStates == 8)),
    ("TL9 ldAI", ran [0xED, 0x57] { base with i := 0x80, iff2 := true, f := Flags.unpack 0x01 }
        (fun t => t.a == 0x80 && t.f.pack == 0x85 && t.tStates == 9)),
    ("TL10 ldAI", ran [0xED, 0x57] { base with a := 5 }
        (fun t => t.a == 0 && t.f.pack == 0x40)),
    ("TL11 ldAR", ran [0xED, 0x5F] { base with iff2 := true }
        (fun t => t.a == 0 && t.f.pack == 0x44)),
    ("TL12 ldRA", ran [0xED, 0x4F] { base with a := 0xC3 }
        (fun t => t.r == 0xC3)) ]

theorem test_load8_vectors : (load8Vectors.all fun v => v.2) = true := by decide

/-- Steps of spec/95_test_vectors.md, each under its vector and instruction. -/
def stackVectors : List (String × Bool) :=
  [ ("TS2 pushQq", ran [0xC5] { base with sp := 1, b := 0x12, c := 0x34, pc := 0x0100 }
        (fun t => t.sp == 0xFFFF && cell t 0xFFFF == 0x34 && cell t 0 == 0x12 && t.tStates == 11)),
    ("TS3 popQq", ran [0xF1] { base with sp := 0xFFFF, mem := [(0, 1), (0xFFFF, 0xD7)], pc := 0x0100 }
        (fun t => t.f.pack == 0xD7 && t.a == 1 && t.sp == 1)),
    ("TS4 ldHLMnn", ran [0x2A, 0xFF, 0xFF] { base with mem := [(0, 0x12), (0xFFFF, 0x34)], pc := 0x0100 }
        (fun t => t.hl == 0x1234 && t.tStates == 16)),
    ("TS5 ldMnnRp", ran [0xED, 0x53, 0x00, 0x90] { base with d := 0xBE, e := 0xEF }
        (fun t => cell t 0x9000 == 0xEF && cell t 0x9001 == 0xBE && t.tStates == 20)),
    ("TS6 exDeHL", ran [0xEB] { base with d := 0x11, e := 0x11, h := 0x22, l := 0x22 }
        (fun t => t.de == 0x2222 && t.hl == 0x1111)),
    ("TS7 exAfAf", ran [0x08] { base with a := 0x12, f := Flags.unpack 0x34, a' := 0x56, f' := Flags.unpack 0x78 }
        (fun t => t.a == 0x56 && t.f.pack == 0x78 && t.a' == 0x12 && t.f'.pack == 0x34)),
    ("TS9 exSpHL", ran [0xE3] { base with h := 0xAB, l := 0xCD, sp := 0xBFFE, mem := [(0xBFFE, 0x34), (0xBFFF, 0x12)] }
        (fun t => t.hl == 0x1234 && cell t 0xBFFE == 0xCD && cell t 0xBFFF == 0xAB && t.tStates == 19)),
    ("TSx exSpIX", ran [0xDD, 0xE3] { base with ix := 0xABCD, sp := 0xBFFE, mem := [(0xBFFE, 0x34), (0xBFFF, 0x12)] }
        (fun t => t.ix == 0x1234 && cell t 0xBFFE == 0xCD && cell t 0xBFFF == 0xAB && t.tStates == 23)) ]

theorem test_stack_vectors : (stackVectors.all fun v => v.2) = true := by decide

/-- Steps of spec/95_test_vectors.md, each under its vector and instruction. -/
def blockVectors : List (String × Bool) :=
  [ ("TK5 cpi", ran [0xED, 0xA1]
        { base with a := 0x10, h := 0x40, c := 2, mem := [(0x4000, 0x20)], f := Flags.unpack 0x01 }
        (fun t => t.hl == 0x4001 && t.bc == 1 && t.f.pack == 0x87 && t.tStates == 16)),
    ("TK6 cpir", ran [0xED, 0xB1] { base with a := 0xFF, h := 0x40, c := 2, mem := [(0x4001, 1)] }
        (fun t => t.hl == 0x4002 && t.bc == 0 && !t.f.z && !t.f.pv && t.tStates == 21)),
    ("TK8 inir", ran [0xED, 0xB2] { base with b := 2, c := 0x10, h := 0x40, ioIn := [1, 2] }
        (fun t => cell t 0x4000 == 1 && cell t 0x4001 == 2 && t.b == 0 && t.hl == 0x4002 && t.f.z && !t.f.pv
          && t.tStates == 21
          && t.trace.take 4 == [.write8 0x4001 2, .portIn 0x0110 2, .write8 0x4000 1, .portIn 0x0210 1])),
    ("TK9 outi", ran [0xED, 0xA3] { base with b := 1, c := 0x98, h := 0x40, mem := [(0x4000, 0x80)] }
        (fun t => t.b == 0 && t.hl == 0x4001 && t.f.z && !t.f.pv && t.f.n
          && t.trace.head? == some (.portOut 0x0098 0x80) && t.tStates == 16)),
    ("V2 ldir", ran [0xED, 0xB0]
        { base with h := 0x40, d := 0x50, c := 3, mem := [(0x4000, 0xAA), (0x4001, 0xBB), (0x4002, 0xCC)], pc := 0x0002 }
        (fun t => t.bc == 0 && t.f.pack == 8 && t.tStates == 26 && t.pc == 4)),
    ("LDDR lddr", ran [0xED, 0xB8]
        { base with h := 0x40, l := 1, d := 0x50, e := 1, c := 2, mem := [(0x4000, 0xAA), (0x4001, 0xBB)] }
        (fun t => t.hl == 0x3FFF && t.de == 0x4FFF && t.bc == 0 && cell t 0x5000 == 0xAA && cell t 0x5001 == 0xBB)) ]

theorem test_block_vectors : (blockVectors.all fun v => v.2) = true := by decide

/-- Steps of spec/95_test_vectors.md, each under its vector and instruction. -/
def controlPart1Vectors : List (String × Bool) :=
  [ ("V4a djnz", ran [0x10, 0xFE] { base with b := 1 }
        (fun t => t.b == 0 && t.pc == 2 && t.tStates == 8)),
    ("V4b djnz", ran [0x10, 0xFE] { base with b := 2 }
        (fun t => t.b == 1 && t.pc == 0 && t.tStates == 13)),
    ("TJ1 jpNn", ran [0xC3, 0x34, 0x12] base
        (fun t => t.pc == 0x1234 && t.tStates == 10)),
    ("TJ2 jpCcNn", ran [0xC2, 0x34, 0x12] { base with f := Flags.unpack 0x40 }
        (fun t => t.pc == 3 && t.tStates == 10)),
    ("TJ3 jr", ran [0x18, 0x7F] base
        (fun t => t.pc == 0x81 && t.tStates == 12)),
    ("TJ5 jrCc", ran [0x38, 0x10] { base with pc := 0x0100 }
        (fun t => t.pc == 0x102 && t.tStates == 7)),
    ("TJ6 jrCc", ran [0x38, 0x10] { base with f := Flags.unpack 0x01, pc := 0x0100 }
        (fun t => t.pc == 0x112 && t.tStates == 12)),
    ("TJ8 jpHL", ran [0xE9] { base with h := 0x80 }
        (fun t => t.pc == 0x8000 && t.tStates == 4)),
    ("TJ9 jpIY", ran [0xFD, 0xE9] { base with pc := 0x0005 }
        (fun t => t.pc == 0 && t.tStates == 8)),
    ("TJ10 callNn", ran [0xCD, 0x00, 0x20] { base with pc := 0x1000 }
        (fun t => cell t 0xFFFE == 3 && cell t 0xFFFF == 0x10 && t.sp == 0xFFFE && t.pc == 0x2000
          && t.tStates == 17)),
    ("TJ11 callCcNn", ran [0xCC, 0x00, 0x20] { base with sp := 0x8000, pc := 0x1000 }
        (fun t => t.pc == 0x1003 && t.sp == 0x8000 && t.tStates == 10)),
    ("TJ12 callCcNn", ran [0xCC, 0x00, 0x20] { base with sp := 0x8000, f := Flags.unpack 0x40, pc := 0x1000 }
        (fun t => cell t 0x7FFE == 3 && cell t 0x7FFF == 0x10 && t.pc == 0x2000 && t.tStates == 17)) ]

theorem test_controlPart1_vectors : (controlPart1Vectors.all fun v => v.2) = true := by decide

/-- Steps of spec/95_test_vectors.md, each under its vector and instruction. -/
def controlPart2Vectors : List (String × Bool) :=
  [ ("TJ13 ret", ran [0xC9] { base with sp := 0xFFFE, mem := [(0xFFFE, 3), (0xFFFF, 0x10)] }
        (fun t => t.pc == 0x1003 && t.sp == 0 && t.tStates == 10)),
    ("TJ14 retCc", ran [0xF0] { base with f := Flags.unpack 0x80 }
        (fun t => t.pc == 1 && t.tStates == 5)),
    ("TJ15 retCc", ran [0xE8] { base with f := Flags.unpack 0x04, sp := 0x8000, mem := [(0x8001, 0x30)] }
        (fun t => t.pc == 0x3000 && t.sp == 0x8002 && t.tStates == 11)),
    ("TJ16 rst", ran [0xFF] { base with sp := 0xC000, pc := 0x1234 }
        (fun t => cell t 0xBFFE == 0x35 && cell t 0xBFFF == 0x12 && t.sp == 0xBFFE && t.pc == 0x38
          && t.tStates == 11)),
    ("TJ17 retn", ran [0xED, 0x45] { base with iff2 := true, sp := 0xBFFE, mem := [(0xBFFF, 0x10)] }
        (fun t => t.pc == 0x1000 && t.sp == 0xC000 && t.iff1 && t.tStates == 14)),
    ("TJ18 reti", ran [0xED, 0x4D] { base with iff1 := true, sp := 0xBFFE, mem := [(0xBFFF, 0x10)] }
        (fun t => t.pc == 0x1000 && !t.iff1)) ]

theorem test_controlPart2_vectors : (controlPart2Vectors.all fun v => v.2) = true := by decide

/-- Steps of spec/95_test_vectors.md, each under its vector and instruction. -/
def ioCpuPart1Vectors : List (String × Bool) :=
  [ ("TP1 inAN", ran [0xDB, 0x34] { base with a := 0x12, ioIn := [0x5A] }
        (fun t => t.a == 0x5A && t.trace.head? == some (.portIn 0x1234 0x5A) && t.tStates == 11)),
    ("TP2 outNA", ran [0xD3, 0xFE] { base with a := 7 }
        (fun t => t.trace.head? == some (.portOut 0x07FE 7) && t.tStates == 11)),
    ("TP3 inRC", ran [0xED, 0x40] { base with b := 0x10, c := 0xFE, f := Flags.unpack 0x01, ioIn := [0] }
        (fun t => t.b == 0 && t.f.pack == 0x45 && t.trace.head? == some (.portIn 0x10FE 0))),
    ("TP5 outCR", ran [0xED, 0x79] { base with b := 1, c := 0xFE, a := 0x33 }
        (fun t => t.trace.head? == some (.portOut 0x01FE 0x33) && t.tStates == 12)),
    ("TP7 inFC", ran [0xED, 0x70]
        { base with f := Flags.unpack 0x01, ioIn := [0x28], params := { base.params with edUndoc := .execute } }
        (fun t => t.f.pack == 0x2D)),
    ("TP8 outC0", ran [0xED, 0x71]
        { base with b := 0x12, c := 0x34, params := { base.params with edUndoc := .execute } }
        (fun t => t.trace.head? == some (.portOut 0x1234 0))),
    ("TP9 nop", ran [0x00] base
        (fun t => t.pc == 1 && t.tStates == 4)),
    ("TP10 halt", ran [0x76] { base with pc := 0x0100 }
        (fun t => t.halt && t.pc == 0x100 && t.tStates == 4)),
    ("TP11 halt", ran [0x76] { base with halt := true, pc := 0x0100 }
        (fun t => t.halt && t.pc == 0x100 && t.tStates == 4)),
    ("TP12 di", ran [0xF3] { base with iff1 := true, iff2 := true }
        (fun t => !t.iff1 && !t.iff2 && t.eidi)),
    ("TP13 ei", ran [0xFB] base
        (fun t => t.iff1 && t.iff2 && t.eidi)),
    ("TP14 im2", ran [0xED, 0x5E] base
        (fun t => t.im == .im2 && t.tStates == 8)) ]

theorem test_ioCpuPart1_vectors : (ioCpuPart1Vectors.all fun v => v.2) = true := by decide

/-- Steps of spec/95_test_vectors.md, each under its vector and instruction. -/
def ioCpuPart2Vectors : List (String × Bool) :=
  [ ("TP15 im1", ran [0xED, 0x56] base
        (fun t => t.im == .im1)) ]

theorem test_ioCpuPart2_vectors : (ioCpuPart2Vectors.all fun v => v.2) = true := by decide

/-- Steps of spec/95_test_vectors.md, each under its vector and instruction. -/
def machineVectors : List (String × Bool) :=
  [ ("TN1 nmi", ran [0x00] { base with sp := 0xC000, iff1 := true, iff2 := true, nmi := true, pc := 0x1234 }
        (fun t => !t.nmi && cell t 0xBFFE == 0x34 && cell t 0xBFFF == 0x12 && t.sp == 0xBFFE && t.pc == 0x66
          && !t.iff1 && t.iff2 && t.tStates == 11)),
    ("TN3 nmi", ran [0x00] { base with eidi := true, nmi := true, pc := 0x0010 }
        (fun t => t.pc == 0x11 && t.nmi && !t.eidi)),
    ("TN4 nmi", ran [0x76] { base with halt := true, sp := 0xC000, nmi := true, pc := 0x0100 }
        (fun t => !t.halt && cell t 0xBFFE == 1 && cell t 0xBFFF == 1 && t.pc == 0x66)),
    ("TN5 nmi", ran [0x76]
        { base with halt := true, sp := 0xC000, nmi := true, params := { base.params with nmiHaltResume := .atHalt }, pc := 0x0100 }
        (fun t => !t.halt && cell t 0xBFFE == 0 && cell t 0xBFFF == 1)),
    ("TN8 nmi", ran [0x00] { base with sp := 1, nmi := true, pc := 0xABCD }
        (fun t => cell t 0xFFFF == 0xCD && cell t 0 == 0xAB && t.sp == 0xFFFF)),
    ("TN11 ddBase", ran [0xDD, 0x00] { base with params := { base.params with ddfdUndoc := .execute } }
        (fun t => t.pc == 2 && t.tStates == 8)),
    ("TN12 discardedByte", ran [0xDD, 0xFD, 0x21, 0x34, 0x12]
        { base with params := { base.params with ddfdUndoc := .execute } }
        (fun t => t.pc == 5 && t.tStates == 18 && t.iy == 0x1234 && t.ix == 0)),
    ("TN13 ldBIXH", ran [0xDD, 0x44] { base with ix := 0x9900 }
        (fun t => t.b == 0x99 && t.tStates == 8)) ]

theorem test_machine_vectors : (machineVectors.all fun v => v.2) = true := by decide

/-! ## Stops at decode (60_exceptions.md R492, R493) -/

theorem test_tn9_ed_undefined :
    stopped [0xED, 0x00] base (fun t => t.pc == 2 && t.f.pack == 0) = true := by decide

theorem test_tn10_dd_undefined :
    stopped [0xDD, 0x00] base (fun t => t.pc == 2) = true := by decide

theorem test_ddcb_undefined :
    stopped [0xDD, 0xCB, 0x05, 0xC0] base (fun t => t.pc == 4) = true := by decide

theorem test_timing_unset :
    stopped [0x3E] { base with timing := TimingTables.unset } (fun t => t.pc == 1) = true := by decide

/-- A stop behind a discarded DD: PC and info name the bytes behind it, T is that of the step's start (logs 12, 24). -/
theorem test_stop_behind_discarded :
    (match step (loaded [0xDD, 0xED, 0x77] { opened with tStates := 7 }) with
      | .fault (.unimplementedOpcode pc info t) => pc == 1 && info == [0xED, 0x77] && t.pc == 3 && t.tStates == 7
      | _ => false) = true := by decide

/-- LDIR with DE = HL + 1 fills the block with its first byte (43_block.md R284). -/
theorem test_ldir_overlap :
    ran [0xED, 0xB0] { base with h := 0x40, d := 0x40, e := 1, c := 3, mem := [(0x4000, 0xAA), (0x4002, 0xBB)] }
      (fun t => cell t 0x4001 == 0xAA && cell t 0x4002 == 0xAA && cell t 0x4003 == 0xAA && cell t 0x4004 == 0)
      = true := by decide

/-- A repeating block instruction with B = 0 runs 256 elements (vector TK10, on an instruction of fewer cycles). -/
theorem test_io_count : ioCount base = 256 ∧ copyCount base = 65536 := by decide

/-! ## Table words (log 20) -/

theorem test_table_word : decodeTableWord 8 0x3E = some (.ldRN .a 0) := by decide

theorem test_table_word_two_bytes : decodeTableWord 16 0xB0ED = some .ldir := by decide

theorem test_with_fetch_word :
    (match step ({ base with nmi := true, timing := TimingTables.unset }.withFetchWord 16 0x9A3E) with
      | .next t => t.a == 0x9A
      | _ => false) = true := by decide

/-! ## Witnesses: what the hypotheses of the statements ask for is met -/

/-- ResetAndShallowReset, ConstructionEndsInReset and the flag statements have no hypotheses; TimingSpecAccepted: a
list that is accepted, and one of each kind that is not (70_reset_and_hazards.md R566). -/
theorem witness_TimingSpecAccepted :
    (buildTables [⟨[.lit 0x10, .off], .two 13 8⟩]).isOk = true
    ∧ (buildTables [⟨[.imm8], .one 4⟩]).isOk = false
    ∧ (buildTables [⟨[.lit 0xCB, .lit 0x00], .two 8 15⟩]).isOk = false := by decide

theorem witness_FirstPopulatedWins :
    ∃ t t', buildOn TimingTables.unset [⟨[.lit 0xED, .lit 0xB0], .two 16 21⟩] = .ok t
      ∧ buildOn t [⟨[.lit 0xED, .lit 0xB0], .two 1 3⟩] = .ok t'
      ∧ TimingTable.entry (t.primary .ed) 0xB0 = some 16 ∧ TimingTable.entry t.edAlt 0xB0 = some 5 :=
  ⟨_, _, rfl, rfl, by decide, by decide⟩

/-- A base opcode at the ends of the range, and an opcode behind DD that is not 0xCB. -/
theorem witness_CountsSplit :
    isPrefixByte 0x10 = false ∧ isPrefixByte 0xFF = false ∧ isPrefixByte 0x00 = false ∧ (0xCC : Byte) ≠ 0xCB := by decide

theorem witness_StepRunsTheDecodedInstruction :
    NoNmi (loaded [0xDD, 0x7E, 0xFF] base) ∧ NoNmi { base with eidi := true, nmi := true }
    ∧ decode ((loaded [0xDD, 0x7E, 0xFF] base).fetchedBytes 4) = .ok (.ldRMixd .a 0xFF)
    ∧ (Instr.ldRMixd .a 0xFF).isDiscarded = false
    ∧ enabled (loaded [0xDD, 0x7E, 0xFF] base).params (.ldRMixd .a 0xFF) = true
    ∧ primaryCharge (loaded [0xDD, 0x7E, 0xFF] base).timing (.ldRMixd .a 0xFF)
        ((loaded [0xDD, 0x7E, 0xFF] base).fetchedBytes 4) = some 19 :=
  ⟨.inr rfl, .inl rfl, by decide, rfl, rfl, by decide⟩

/-- With no NMI pending, and with one that the latch keeps waiting. -/
theorem witness_StepGoesOnBehindADiscardedByte :
    NoNmi (loaded [0xDD, 0xFD, 0x21] opened)
    ∧ NoNmi { loaded [0xDD, 0xFD, 0x21] opened with eidi := true, nmi := true }
    ∧ decode ((loaded [0xDD, 0xFD, 0x21] opened).fetchedBytes 4) = .ok (.ddDiscarded .fd)
    ∧ (Instr.ddDiscarded .fd).isDiscarded = true
    ∧ enabled (loaded [0xDD, 0xFD, 0x21] opened).params (.ddDiscarded .fd) = true
    ∧ ran [0xDD, 0xFD, 0x21] opened (fun _ => true) = true
    ∧ ran [0xDD, 0xFD, 0x21] { opened with eidi := true, nmi := true } (fun t => t.nmi && t.pc == 5) = true :=
  ⟨.inr rfl, .inl rfl, by decide, rfl, rfl, by decide, by decide⟩

/-- The clauses on R, on the return address and on memory are met by both values of each parameter. -/
theorem witness_NmiAcceptance :
    let s := { base with nmi := true, sp := 1, pc := 0xFFFF }
    let q : Params := { base.params with refresh := .m1, nmiHaltResume := .atHalt, memModel := .collaborator }
    let s' := { s with halt := true, params := q }
    s.eidi = false ∧ s.nmi = true ∧ s.params.refresh = .static ∧ s.params.memModel = .ram ∧ Memory.wf s.mem = true
      ∧ s.params.nmiHaltResume = .afterHalt
      ∧ s'.eidi = false ∧ s'.nmi = true ∧ s'.params.refresh = .m1 ∧ s'.params.memModel = .collaborator := by
  decide

/-- EI alone, and EI behind a discarded DD. -/
theorem witness_EiDiLatchSuppressesOnce :
    ran [0xFB] { base with eidi := true, nmi := true } (fun t => t.eidi && t.nmi) = true
    ∧ ran [0xFB] { base with nmi := true } (fun t => !t.eidi && !t.nmi) = true
    ∧ ran [0x00] { base with eidi := true } (fun t => !t.eidi) = true
    ∧ NoNmi (loaded [0xFB] { base with eidi := true, nmi := true })
    ∧ RunsBehind 0 .ei (loaded [0xFB] { base with eidi := true, nmi := true })
    ∧ RunsBehind 1 (.fdBase .ei) (loaded [0xDD, 0xFD, 0xFB] opened)
    ∧ ran [0xDD, 0xFD, 0xFB] opened (fun t => t.eidi) = true :=
  ⟨by decide, by decide, by decide, .inl rfl, ⟨trivial, by decide, rfl⟩, ⟨⟨by decide, trivial⟩, by decide, rfl⟩,
    by decide⟩

/-- An ED and an FD CB instruction with no enabled row, and an ED one behind a discarded DD. -/
theorem witness_UnimplementedOpcode :
    (NoNmi (loaded [0xED, 0x00] base) ∧ DiscardsFor 0 (loaded [0xED, 0x00] base)
      ∧ ∀ i, decode ((State.behind 0 (loaded [0xED, 0x00] base)).fetchedBytes 4) = .ok i →
          enabled (loaded [0xED, 0x00] base).params i = false)
    ∧ (NoNmi (loaded [0xFD, 0xCB, 0x05, 0x00] base) ∧ DiscardsFor 0 (loaded [0xFD, 0xCB, 0x05, 0x00] base)
      ∧ ∀ i, decode ((State.behind 0 (loaded [0xFD, 0xCB, 0x05, 0x00] base)).fetchedBytes 4) = .ok i →
          enabled (loaded [0xFD, 0xCB, 0x05, 0x00] base).params i = false)
    ∧ (NoNmi (loaded [0xDD, 0xED, 0x77] opened) ∧ DiscardsFor 1 (loaded [0xDD, 0xED, 0x77] opened)
      ∧ ∀ i, decode ((State.behind 1 (loaded [0xDD, 0xED, 0x77] opened)).fetchedBytes 4) = .ok i →
          enabled (loaded [0xDD, 0xED, 0x77] opened).params i = false) := by
  refine ⟨⟨.inr rfl, trivial, ?_⟩, ⟨.inr rfl, trivial, ?_⟩, .inr rfl, ⟨by decide, trivial⟩, ?_⟩
  · intro i h
    have e : decode ((State.behind 0 (loaded [0xED, 0x00] base)).fetchedBytes 4) = .error (.undefinedED 0) := by decide
    rw [e] at h
    cases h
  · intro i h
    have e : decode ((State.behind 0 (loaded [0xFD, 0xCB, 0x05, 0x00] base)).fetchedBytes 4)
        = .ok (.rotMiydCopy .rlc 5 .b) := by decide
    rw [e] at h
    cases h
    rfl
  · intro i h
    have e : decode ((State.behind 1 (loaded [0xDD, 0xED, 0x77] opened)).fetchedBytes 4)
        = .error (.undefinedED 0x77) := by decide
    rw [e] at h
    cases h

theorem witness_ReservedOpcodes :
    reservedED 0x77 = true ∧ reservedED 0x76 = false ∧ reservedED 0x3F = true ∧ reservedED 0x40 = false
    ∧ reservedED 0xA3 = false ∧ reservedED 0xA4 = true ∧ reservedED 0xBB = false ∧ reservedED 0xBC = true := by decide

theorem witness_UndocumentedRowsAreGated :
    decodesTo ([0xED, 0x70, 0, 0], .inFC) = true ∧ decodesTo ([0xDD, 0x40, 0, 0], .ddBase (.ldRR .b .b)) = true
    ∧ decodesTo ([0xFD, 0xCB, 1, 0x47], .bitMiydAlias 0 1 .a) = true := by decide

/-- A base instruction behind DD, and the same behind a discarded FD. -/
theorem witness_TimingUnset :
    let s := { loaded [0xDD, 0x00] opened with timing := TimingTables.unset }
    let s' := { loaded [0xFD, 0xDD, 0x00] opened with timing := TimingTables.unset }
    (NoNmi s ∧ DiscardsFor 0 s ∧ decode ((State.behind 0 s).fetchedBytes 4) = .ok (.ddBase .nop)
      ∧ enabled s.params (.ddBase .nop) = true
      ∧ primaryCharge s.timing (.ddBase .nop) ((State.behind 0 s).fetchedBytes 4) = none)
    ∧ NoNmi s' ∧ DiscardsFor 1 s' ∧ decode ((State.behind 1 s').fetchedBytes 4) = .ok (.ddBase .nop)
      ∧ enabled s'.params (.ddBase .nop) = true
      ∧ primaryCharge s'.timing (.ddBase .nop) ((State.behind 1 s').fetchedBytes 4) = none :=
  ⟨⟨.inr rfl, trivial, by decide, rfl, by decide⟩, .inr rfl, ⟨by decide, trivial⟩, by decide, rfl, by decide⟩

theorem witness_EveryInstructionCompletes :
    (Instr.im0Alias 5).wellFormed = true ∧ (Instr.ddBase .halt).wellFormed = true
    ∧ exec .halt base = .next { base with halt := true, pc := 0xFFFF } := ⟨rfl, rfl, rfl⟩

theorem witness_Inv : Inv (loaded [0xED, 0xB0] base) := ⟨by decide, rfl⟩

/-- For InvariantKept and StepKeepsConstants: a step that completes and one that stops. -/
theorem witness_callerStep :
    (∃ t, callerStep (loaded [0x3E, 0x12] base) = some t) ∧ (∃ t, callerStep (loaded [0xED, 0x00] base) = some t) :=
  ⟨Option.isSome_iff_exists.mp (by decide), Option.isSome_iff_exists.mp (by decide)⟩

theorem witness_ShadowSetOnlyExchanged :
    (∃ t, exec .exx base = .next t) ∧ runs .exx ≠ .exAfAf ∧ runs (.ddBase .exAfAf) ≠ .exx :=
  ⟨⟨_, rfl⟩, by decide, by decide⟩

theorem witness_ControlStateWriters :
    (∃ t, exec .ldRA base = .next t) ∧ runs .ldRA ≠ .ei ∧ runs .ldRA ≠ .di ∧ retForm .ldRA ≠ some true
    ∧ imForm .ldRA = none ∧ Instr.ldRA ≠ .ldIA ∧ runs .ldRA ≠ .halt :=
  ⟨⟨_, rfl⟩, by decide, by decide, by decide, rfl, by decide, by decide⟩

theorem witness_RefreshRegister :
    (∃ t, base.params.refresh = .static ∧ exec .ldir { base with b := 0, c := 1 } = .next t) ∧ Instr.ldir ≠ .ldRA
    ∧ ran [0xED, 0x47] base (fun t => t.r == 0) = true ∧ RunsBehind 0 .ldIA (loaded [0xED, 0x47] base)
    ∧ ran [0xFD, 0xED, 0x47] opened (fun t => t.r == 0) = true
    ∧ RunsBehind 1 .ldIA (loaded [0xFD, 0xED, 0x47] opened) :=
  ⟨⟨_, rfl, rfl⟩, by decide, by decide, ⟨trivial, by decide, rfl⟩, by decide,
    ⟨⟨by decide, trivial⟩, by decide, rfl⟩⟩

theorem witness_DecodeEncode :
    (Instr.retnAlias 7).wellFormed = true ∧ encode (.retnAlias 7) = [0xED, 0x7D]
    ∧ (Instr.fdBase (.jrCc .c 0)).wellFormed = true := by decide

theorem witness_EncodeDecode : decodesTo ([0xFD, 0x36, 0xFF, 0x80, 0x00], .ldMiydN 0xFF 0x80) = true := by
  decide

theorem witness_DefaultTimingIsComplete :
    primaryCharge defaultTables (.ddBase .nop) (encode (.ddBase .nop) ++ [0xFF]) = some 8
    ∧ primaryCharge defaultTables .exSpIX (encode .exSpIX) = some 23 := by decide

theorem witness_ByteLoads : ∃ i p v, loadForm i = some (p, v) := ⟨.ldRN .a 5, _, _, rfl⟩

theorem witness_ByteLoadsFromMemory : ∃ i r a, loadMemForm i = some (r, a) := ⟨.ldRMixd .h 0x80, _, _, rfl⟩

/-- For ByteStores: the form, and the premises of both clauses of a store. -/
theorem witness_ByteStores :
    (∃ i a v, storeForm i = some (a, v)) ∧ base.params.memModel = .ram ∧ Memory.wf base.mem = true
    ∧ { base.params with memModel := .collaborator }.memModel = .collaborator :=
  ⟨⟨.ldMnnA 0xFFFF, _, _, rfl⟩, rfl, rfl, rfl⟩

/-- For the statements on flags: both policies, and a bit of each kind of mask. -/
theorem witness_FlagsGive :
    base.params.undocFlags = .exact ∧ { base.params with undocFlags := .draw }.undocFlags = .draw
    ∧ Flags.undocF53.s = false ∧ Flags.undocF53.f5 = true ∧ Flags.undocBlockIo.z = false
    ∧ Flags.undocBlockIo.c = true := by decide

theorem witness_WordLoadsAndSteps : ∃ i p v, wordForm i = some (p, v) := ⟨.incRp .sp, _, _, rfl⟩

theorem witness_WordLoadsFromMemory : ∃ i p a, loadWordForm i = some (p, a) := ⟨.ldRpMnn .sp 0xFFFF, _, _, rfl⟩

theorem witness_WordStores : ∃ i a v, storeWordForm i = some (a, v) := ⟨.ldMnnRp .hl 0xFFFF, _, _, rfl⟩

theorem witness_Pushes : ∃ i v, pushForm i = some v := ⟨.pushQq .af, _, rfl⟩

theorem witness_Pops : ∃ i p, popForm i = some p := ⟨.popIY, _, rfl⟩

theorem witness_ExchangesWithTheStack : ∃ i p, exSpForm i = some p := ⟨.exSpHL, _, rfl⟩

theorem witness_AccumulatorGroup : ∃ i op src, aluForm i = some (op, src) := ⟨.sbcMiyd 0x80, _, _, rfl⟩

theorem witness_IncrementDecrement : ∃ i up tgt, incDecForm i = some (up, tgt) := ⟨.decIXL, _, _, rfl⟩

theorem witness_AccumulatorAdjust : Instr.negAlias 7 = .neg ∨ (∃ y, Instr.negAlias 7 = .negAlias y) := .inr ⟨_, rfl⟩

theorem witness_WordArithmetic : ∃ i p v, add16Form i = some (p, v) := ⟨.addIXRp .xy, _, _, rfl⟩

theorem witness_ShiftsAndRotates :
    (∃ i k tgt, shiftForm i = some (k, tgt)) ∧ ∃ i k, rotateAForm i = some k :=
  ⟨⟨.rotMixdCopy .sll 0 .a, _, _, rfl⟩, ⟨.rra, _, rfl⟩⟩

theorem witness_BitTests : ∃ i b src, bitForm i = some (b, src) := ⟨.bitMiyd 7 0xFF, _, _, rfl⟩

theorem witness_BitResetsAndSets : ∃ i set b tgt, resSetForm i = some (set, b, tgt) := ⟨.setR 0 .a, _, _, _, rfl⟩

theorem witness_Jumps :
    (∃ i tg, jumpForm i = some tg) ∧ ∃ i cc tg op, condJumpForm i = some (cc, tg, op) :=
  ⟨⟨.jr 0x80, _, rfl⟩, ⟨.jrCc .c 0x7F, _, _, _, rfl⟩⟩

theorem witness_CallsAndReturns :
    (∃ i tg, callForm i = some tg) ∧ (∃ i r, retForm i = some r)
    ∧ condHolds base.f .nz = true ∧ condHolds base.f .z = false :=
  ⟨⟨.rst 7, _, rfl⟩, ⟨.retnAlias 2, _, rfl⟩, rfl, rfl⟩

theorem witness_InputAndOutput :
    (∃ i dst, (i = Instr.inFC ∧ dst = none) ∨ ∃ r, i = Instr.inRC r ∧ dst = some r)
    ∧ ∃ i p v, outForm i = some (p, v) :=
  ⟨⟨.inRC .a, _, .inr ⟨.a, rfl, rfl⟩⟩, ⟨.outC0, _, _, rfl⟩⟩

theorem witness_CpuControl : ∃ i m, imForm i = some m := ⟨.im0Alias 1, _, rfl⟩

/-- For BlockCopyRegisters: the least and the greatest number of elements. -/
theorem witness_BlockCopyRegisters :
    (∃ i up op, blockCopyForm i = some (up, op)) ∧ base.blockMove = false ∧ copyCount base = 65536
    ∧ copyCount { base with c := 1 } = 1 :=
  ⟨⟨.lddr, _, _, rfl⟩, rfl, by decide, by decide⟩

/-- For BlockCopyMemory: a block that meets no source address, one that is filled with its first byte, and a state with
a memory collaborator. -/
theorem witness_BlockCopyMemory :
    let s := { base with h := 0xFF, l := 0xFF, d := 0x50, c := 2 }
    (blockCopyForm .ldir = some (true, 0xB0) ∧ s.blockMove = false ∧ s.params.memModel = .ram ∧ Memory.wf s.mem = true
      ∧ ∀ j k, j < copyCount s → k < copyCount s →
          s.de + stepOf true * BitVec.ofNat 16 j ≠ s.hl + stepOf true * BitVec.ofNat 16 k)
    ∧ State.de { s with d := 0, e := 0 } = State.hl { s with d := 0, e := 0 } + stepOf true
    ∧ State.de { s with d := 0xFF, e := 0xFE } = State.hl { s with d := 0xFF, e := 0xFE } + stepOf false
    ∧ { base.params with memModel := .collaborator }.memModel = .collaborator := by
  refine ⟨⟨rfl, rfl, rfl, rfl, ?_⟩, by decide, by decide, rfl⟩
  intro j k hj hk
  have e : copyCount { base with h := 0xFF, l := 0xFF, d := 0x50, c := 2 } = 2 := by decide
  rw [e] at hj hk
  have h : ∀ j < 2, ∀ k < 2, (0x5000 : Word) + stepOf true * BitVec.ofNat 16 j
      ≠ 0xFFFF + stepOf true * BitVec.ofNat 16 k := by decide
  exact h j hj k hk

theorem witness_BlockSearch :
    (∃ i up op, blockSearchForm i = some (up, op)) ∧ base.blockMove = false ∧ base.params.memModel = .ram :=
  ⟨⟨.cpdr, _, _, rfl⟩, rfl, rfl⟩

/-- For BlockInputOutput: the least and the greatest number of elements. -/
theorem witness_BlockInputOutput :
    (∃ i input up op, blockIoForm i = some (input, up, op)) ∧ base.blockMove = false ∧ ioCount base = 256
    ∧ ioCount { base with b := 1 } = 1 :=
  ⟨⟨.otdr, _, _, _, rfl⟩, rfl, by decide, by decide⟩

theorem witness_FallThrough :
    (Instr.ldRR .b .c).fallsThrough = true ∧ (Instr.callCcNn .m 0xFFFF).fallsThrough = true
    ∧ (Instr.ldRR .h .c).fallsThrough = false := by decide

end Sys2Proof.Tests
end

section
namespace Sys2Proof.Machine

open Sys2Proof.Machine.Claims

/-! ## What no instruction but a named few writes -/

/-- The shadow set, the control registers and the constants of the engine: what only the instructions that
`Effect` names write (10_state.md R33, R37, R49 to R57). -/
structure Control where
  a' : Byte
  f' : Flags
  b' : Byte
  c' : Byte
  d' : Byte
  e' : Byte
  h' : Byte
  l' : Byte
  i : Byte
  iff1 : Bool
  iff2 : Bool
  halt : Bool
  eidi : Bool
  nmi : Bool
  im : Im
  resetAddress : Word
  timing : TimingTables
  params : Params

/-- The control part of a state. -/
def State.control (s : State) : Control :=
  { a' := s.a', f' := s.f', b' := s.b', c' := s.c', d' := s.d', e' := s.e', h' := s.h', l' := s.l', i := s.i,
    iff1 := s.iff1, iff2 := s.iff2, halt := s.halt, eidi := s.eidi, nmi := s.nmi, im := s.im,
    resetAddress := s.resetAddress, timing := s.timing, params := s.params }

/-- What an ordinary instruction keeps: the control part, R under `Static`, the canonical form of memory, that no
block repeat is in progress; and T does not fall. -/
structure Keeps (s t : State) : Prop where
  control : t.control = s.control
  r : s.params.refresh = .static → t.r = s.r
  mem : Memory.wf s.mem = true → Memory.wf t.mem = true
  blockMove : s.blockMove = false → t.blockMove = false
  tStates : s.tStates ≤ t.tStates

namespace Keeps

variable {s t u : State}

theorem params (h : Keeps s t) : t.params = s.params := congrArg Control.params h.control

/-- The control part, field by field. -/
theorem fields (h : Keeps s t) :
    (t.a' = s.a' ∧ t.f' = s.f' ∧ t.b' = s.b' ∧ t.c' = s.c' ∧ t.d' = s.d' ∧ t.e' = s.e' ∧ t.h' = s.h' ∧ t.l' = s.l')
      ∧ t.i = s.i ∧ t.iff1 = s.iff1 ∧ t.iff2 = s.iff2 ∧ t.halt = s.halt ∧ t.eidi = s.eidi ∧ t.nmi = s.nmi
      ∧ t.im = s.im ∧ t.resetAddress = s.resetAddress ∧ t.timing = s.timing ∧ t.params = s.params := by
  simpa [State.control, and_assoc] using h.control

/-- A change outside all that `Keeps` speaks of. -/
theorem of_eq (hc : t.control = s.control) (hr : t.r = s.r) (hm : t.mem = s.mem) (hb : t.blockMove = s.blockMove)
    (ht : t.tStates = s.tStates) : Keeps s t :=
  ⟨hc, fun _ => hr, hm ▸ id, hb ▸ id, ht.ge⟩

theorem refl (s : State) : Keeps s s := of_eq rfl rfl rfl rfl rfl

theorem trans (h : Keeps s t) (k : Keeps t u) : Keeps s u where
  control := k.control.trans h.control
  r hs := (k.r (h.params ▸ hs)).trans (h.r hs)
  mem := k.mem ∘ h.mem
  blockMove := k.blockMove ∘ h.blockMove
  tStates := h.tStates.trans k.tStates

end Keeps

section Operations

variable (s : State)

/-! ### The accesses and the register writes

`of_eq` closes an operation outside what `Keeps` speaks of; a store, a charge and a refresh count say which part they
touch. -/

@[simp] theorem keeps_read8 (a : Word) : Keeps s (s.read8 a) := .of_eq rfl rfl rfl rfl rfl
@[simp] theorem keeps_ioRead (p : Word) : Keeps s (s.ioRead p) := .of_eq rfl rfl rfl rfl rfl
@[simp] theorem keeps_ioWrite (p : Word) (v : Byte) : Keeps s (s.ioWrite p v) := .of_eq rfl rfl rfl rfl rfl
@[simp] theorem keeps_afterPop : Keeps s s.afterPop := .of_eq rfl rfl rfl rfl rfl
@[simp] theorem keeps_setBc (v : Word) : Keeps s (s.setBc v) := .of_eq rfl rfl rfl rfl rfl
@[simp] theorem keeps_setDe (v : Word) : Keeps s (s.setDe v) := .of_eq rfl rfl rfl rfl rfl
@[simp] theorem keeps_setHl (v : Word) : Keeps s (s.setHl v) := .of_eq rfl rfl rfl rfl rfl
@[simp] theorem keeps_setReg (r : Reg8) (v : Byte) : Keeps s (s.setReg r v) := by
  cases r <;> exact .of_eq rfl rfl rfl rfl rfl
@[simp] theorem keeps_setRp (p : Rp) (v : Word) : Keeps s (s.setRp p v) := by
  cases p <;> exact .of_eq rfl rfl rfl rfl rfl
@[simp] theorem keeps_setRp2 (q : Rp2) (v : Word) : Keeps s (s.setRp2 q v) := by
  cases q <;> exact .of_eq rfl rfl rfl rfl rfl
@[simp] theorem keeps_setIdx (x : Idx) (v : Word) : Keeps s (s.setIdx x v) := by
  cases x <;> exact .of_eq rfl rfl rfl rfl rfl
@[simp] theorem keeps_setHalf (x : Idx) (k : Half) (v : Byte) : Keeps s (s.setHalf x k v) := by
  cases k <;> exact keeps_setIdx s x _
@[simp] theorem keeps_setFlags (m f : Flags) : Keeps s (s.setFlags m f) := by
  unfold State.setFlags
  split <;> exact .of_eq rfl rfl rfl rfl rfl

@[simp] theorem keeps_write8 (a : Word) (v : Byte) : Keeps s (s.write8 a v) :=
  ⟨rfl, fun _ => rfl, State.storeByte_wf a v, id, le_rfl⟩
@[simp] theorem keeps_write16 (a v : Word) : Keeps s (s.write16 a v) :=
  ⟨rfl, fun _ => rfl, State.storeWord_wf a v, id, le_rfl⟩
@[simp] theorem keeps_push16 (v : Word) : Keeps s (s.push16 v) :=
  ⟨rfl, fun _ => rfl, State.storeWord_wf _ v, id, le_rfl⟩
@[simp] theorem keeps_charge (n : Nat) : Keeps s (s.charge n) :=
  ⟨rfl, fun _ => rfl, id, id, Nat.le_add_right _ _⟩

@[simp] theorem keeps_bumpR (k : Nat) : Keeps s (s.bumpR k) :=
  ⟨rfl, fun h => congrArg State.r (State.bumpR_static h k), id, id, le_rfl⟩

/-! ### The operations of a shape -/

@[simp] theorem keeps_loadReg (r : Reg8) (a : Word) : Keeps s (s.loadReg r a) :=
  (keeps_read8 s a).trans (keeps_setReg _ r _)
@[simp] theorem keeps_loadRp (p : Rp) (a : Word) : Keeps s (s.loadRp p a) :=
  .trans (t := s.read16 a) (.of_eq rfl rfl rfl rfl rfl) (keeps_setRp _ p _)
@[simp] theorem keeps_loadIdx (x : Idx) (a : Word) : Keeps s (s.loadIdx x a) :=
  .trans (t := s.read16 a) (.of_eq rfl rfl rfl rfl rfl) (keeps_setIdx _ x _)
@[simp] theorem keeps_loadAWithIff (v : Byte) : Keeps s (s.loadAWithIff v) :=
  .trans (t := { s with a := v }) (.of_eq rfl rfl rfl rfl rfl) (keeps_setFlags _ _ _)
@[simp] theorem keeps_accumulate (op : AluOp) (v : Byte) : Keeps s (s.accumulate op v) := .of_eq rfl rfl rfl rfl rfl
@[simp] theorem keeps_accumulateMem (op : AluOp) (a : Word) : Keeps s (s.accumulateMem op a) :=
  (keeps_read8 s a).trans (keeps_accumulate _ op _)
@[simp] theorem keeps_modifyReg (g : Byte → Flags → Byte × Flags) (r : Reg8) : Keeps s (s.modifyReg g r) :=
  (keeps_setReg s r _).trans (keeps_setFlags _ _ _)
@[simp] theorem keeps_modifyHalf (g : Byte → Flags → Byte × Flags) (x : Idx) (k : Half) :
    Keeps s (s.modifyHalf g x k) :=
  (keeps_setHalf s x k _).trans (keeps_setFlags _ _ _)
@[simp] theorem keeps_modifyMem (g : Byte → Flags → Byte × Flags) (a : Word) : Keeps s (s.modifyMem g a) :=
  ((keeps_read8 s a).trans (keeps_write8 _ a _)).trans (keeps_setFlags _ _ _)
@[simp] theorem keeps_modifyMemCopy (g : Byte → Flags → Byte × Flags) (a : Word) (r : Reg8) :
    Keeps s (s.modifyMemCopy g a r) :=
  (((keeps_read8 s a).trans (keeps_write8 _ a _)).trans (keeps_setReg _ r _)).trans (keeps_setFlags _ _ _)
@[simp] theorem keeps_mapReg (g : Byte → Byte) (r : Reg8) : Keeps s (s.mapReg g r) := keeps_setReg s r _
@[simp] theorem keeps_mapMem (g : Byte → Byte) (a : Word) : Keeps s (s.mapMem g a) :=
  (keeps_read8 s a).trans (keeps_write8 _ a _)
@[simp] theorem keeps_mapMemCopy (g : Byte → Byte) (a : Word) (r : Reg8) : Keeps s (s.mapMemCopy g a r) :=
  (keeps_mapMem s g a).trans (keeps_setReg _ r _)
@[simp] theorem keeps_rotateA (k : Rot) : Keeps s (s.rotateA k) :=
  .trans (t := { s with a := (shift k s.a s.f.c).1 }) (.of_eq rfl rfl rfl rfl rfl) (keeps_setFlags _ _ _)
@[simp] theorem keeps_rotateDigits (mem a : Byte) : Keeps s (s.rotateDigits mem a) :=
  (((keeps_read8 s s.hl).trans (keeps_write8 _ s.hl mem)).trans (keeps_setReg _ .a a)).trans (keeps_setFlags _ _ _)
@[simp] theorem keeps_testBit (b : Fin 8) (v : Byte) : Keeps s (s.testBit b v) := .of_eq rfl rfl rfl rfl rfl
@[simp] theorem keeps_testBitMem (b : Fin 8) (a : Word) : Keeps s (s.testBitMem b a) := .of_eq rfl rfl rfl rfl rfl
@[simp] theorem keeps_putHl16 (x : Word × Flags) : Keeps s (s.putHl16 x) :=
  (keeps_setHl s x.1).trans (keeps_setFlags _ _ _)
@[simp] theorem keeps_addIdx (x : Idx) (v : Word) : Keeps s (s.addIdx x v) :=
  (keeps_setIdx s x _).trans (keeps_setFlags _ _ _)
@[simp] theorem keeps_setPc (target : Word) : Keeps s { s with pc := target } := .of_eq rfl rfl rfl rfl rfl
@[simp] theorem keeps_branch (target : Word) (op : Byte) : Keeps s (s.branch target op) :=
  (keeps_setPc s target).trans (keeps_charge _ _)
@[simp] theorem keeps_call (target : Word) : Keeps s (s.call target) :=
  (keeps_push16 s s.pc).trans (keeps_setPc _ target)
@[simp] theorem keeps_ret : Keeps s s.ret := .of_eq rfl rfl rfl rfl rfl
@[simp] theorem keeps_swapTop (x : Word) : Keeps s (s.swapTop x) :=
  .trans (t := s.read16 s.sp) (.of_eq rfl rfl rfl rfl rfl) (keeps_write16 _ _ x)

/-- A transfer that is taken or not. -/
theorem keeps_ite {c : Prop} [Decidable c] {t u : State} (ht : Keeps s t) (hu : Keeps s u) :
    Keeps s (if c then t else u) := by
  split
  · exact ht
  · exact hu

/-! ### The block instructions -/

theorem keeps_ldElem (up : Bool) : Keeps s (s.ldElem up) :=
  (((((keeps_read8 s s.hl).trans (keeps_write8 _ s.de _)).trans (keeps_setHl _ _)).trans (keeps_setDe _ _)).trans
    (keeps_setBc _ _)).trans (keeps_setFlags _ _ _)

theorem keeps_cpElem (up : Bool) : Keeps s (s.cpElem up) :=
  (((keeps_read8 s s.hl).trans (keeps_setHl _ _)).trans (keeps_setBc _ _)).trans (keeps_setFlags _ _ _)

theorem keeps_inElem (up : Bool) : Keeps s (s.inElem up) :=
  ((((keeps_ioRead s s.bc).trans (keeps_write8 _ s.hl _)).trans (keeps_setReg _ .b (s.b - 1))).trans
    (keeps_setHl _ _)).trans (keeps_setFlags _ _ _)

theorem keeps_outElem (up : Bool) : Keeps s (s.outElem up) :=
  ((((keeps_read8 s s.hl).trans (keeps_setReg _ .b (s.b - 1))).trans (keeps_ioWrite _ _ _)).trans
    (keeps_setHl _ _)).trans (keeps_setFlags _ _ _)

/-- The charge and the refresh count between two elements. -/
theorem keeps_between (op : Byte) : Keeps s ((s.chargeDelta s.timing.edAlt op).bumpR 2) :=
  (keeps_charge s _).trans (keeps_bumpR _ 2)

/-- A repeating block instruction keeps what its elements keep; the flag of the repeat is clear behind it
(43_block.md R280, 10_state.md R54). -/
theorem keeps_repeatBlock {elem : State → State} (helem : ∀ u, Keeps u (elem u)) (cont : State → Bool) (op : Byte) :
    Keeps s (s.repeatBlock elem cont op) := by
  have h : Keeps { s with blockMove := true } (blockLoop elem cont op 65536 { s with blockMove := true }) :=
    blockLoop_keeps (fun u hu => hu.trans (helem u)) (fun u hu => hu.trans (keeps_between u op)) 65536 _ (.refl _)
  exact ⟨h.control, h.r, h.mem, fun _ => rfl, h.tStates⟩

end Operations

/-! ## What an instruction does to all this -/

/-- What an instruction can do beyond what `Keeps` allows, each instruction that does it named
(10_state.md R33, R37, R38, R49, R51, R52, R56). -/
inductive Effect (i : Instr) (s : State) : State → Prop where
  | keeps {t : State} (h : Keeps s t) : Effect i s t
  | exAfAf (h : runs i = .exAfAf) : Effect i s { s with a := s.a', f := s.f', a' := s.a, f' := s.f }
  | exx (h : runs i = .exx) : Effect i s
      { s with b := s.b', c := s.c', d := s.d', e := s.e', h := s.h', l := s.l',
               b' := s.b, c' := s.c, d' := s.d, e' := s.e, h' := s.h, l' := s.l }
  | di (h : runs i = .di) : Effect i s { s with iff1 := false, iff2 := false, eidi := true }
  | ei (h : runs i = .ei) : Effect i s { s with iff1 := true, iff2 := true, eidi := true }
  | halt (h : runs i = .halt) : Effect i s { s with halt := true, pc := s.pc - 1 }
  | returns (h : retForm i = some true) : Effect i s s.returnFromNmi
  | im {m : Im} (h : imForm i = some m) : Effect i s { s with im := m }
  | ldIA (h : i = .ldIA) : Effect i s { s with i := s.a }
  | ldRA (h : i = .ldRA) : Effect i s { s with r := s.a }

/-- The meaning behind DD or FD is the base instruction's own (30_encoding.md R137). -/
theorem execBaseBehind_eq {i : Instr} (h : i.fallsThrough = true) (s : State) : execBaseBehind i s = exec i s := by
  cases i <;> first | rfl | cases h

/-- A base instruction that falls through is an instruction of its own. -/
theorem wellFormed_of_fallsThrough {j : Instr} (h : j.fallsThrough = true) : j.wellFormed = true := by
  unfold Instr.wellFormed
  split <;> simp_all [Instr.fallsThrough]

/-- A base instruction that falls through stands behind no DD or FD itself. -/
theorem runs_of_fallsThrough {j : Instr} (h : j.fallsThrough = true) : runs j = j := by
  unfold runs
  split <;> simp_all [Instr.fallsThrough]

/-- RETN and RETI do not fall through. -/
theorem retForm_of_fallsThrough {j : Instr} (h : j.fallsThrough = true) : retForm j ≠ some true := by
  unfold retForm
  split <;> simp_all [Instr.fallsThrough]

/-- The interrupt-mode instructions do not fall through. -/
theorem imForm_of_fallsThrough {j : Instr} (h : j.fallsThrough = true) : imForm j = none := by
  unfold imForm
  split <;> simp_all [Instr.fallsThrough]

/-- What runs behind DD or FD has the effect it has alone. -/
theorem Effect.behind {i j : Instr} {s t : State} (hj : j.fallsThrough = true) (hi : runs i = j)
    (h : Effect j s t) : Effect i s t := by
  have hr : runs i = runs j := hi.trans (runs_of_fallsThrough hj).symm
  cases h with
  | keeps h => exact .keeps h
  | exAfAf h => exact .exAfAf (hr.trans h)
  | exx h => exact .exx (hr.trans h)
  | di h => exact .di (hr.trans h)
  | ei h => exact .ei (hr.trans h)
  | halt h => exact .halt (hr.trans h)
  | returns h => exact absurd h (retForm_of_fallsThrough hj)
  | im h => rw [imForm_of_fallsThrough hj] at h; cases h
  | ldIA h => subst h; cases hj
  | ldRA h => subst h; cases hj

/-- The instruction completes with its `Effect`, or the term is no instruction and is refused. -/
def Answers (i : Instr) (s : State) : Prop :=
  (∃ t, exec i s = .next t ∧ Effect i s t)
    ∨ (i.wellFormed = false ∧ exec i s = .refused (.notABaseInstruction (runs i)))

theorem Answers.of_effect {i : Instr} {s t : State} (h : exec i s = .next t) (e : Effect i s t) : Answers i s :=
  .inl ⟨t, h, e⟩

theorem Answers.of_keeps {i : Instr} {s t : State} (h : exec i s = .next t) (k : Keeps s t) : Answers i s :=
  .inl ⟨t, h, .keeps k⟩

/-- Behind DD or FD stands a base instruction, which answers as it does alone, or a term that is refused
(30_encoding.md R137). -/
theorem Answers.behind {i j : Instr} {s : State} (hi : runs i = j) (hw : i.wellFormed = j.fallsThrough)
    (h : exec i s = if j.fallsThrough then execBaseBehind j s else .refused (.notABaseInstruction j))
    (ih : Answers j s) : Answers i s := by
  cases hj : j.fallsThrough with
  | false => exact .inr ⟨hw.trans hj, by rw [h, hj, hi]; rfl⟩
  | true =>
    rw [if_pos hj, execBaseBehind_eq hj] at h
    rcases ih with ⟨t, ht, he⟩ | ⟨hf, -⟩
    · exact .of_effect (h.trans ht) (he.behind hj hi)
    · rw [wellFormed_of_fallsThrough hj] at hf
      cases hf

/-- Every instruction completes with its `Effect`; only a term that is no instruction is refused
(60_exceptions.md R494). -/
theorem exec_answers (i : Instr) (s : State) : Answers i s := by
  induction i with
  | ddBase j ih => exact .behind rfl rfl rfl ih
  | fdBase j ih => exact .behind rfl rfl rfl ih
  | exAfAf => exact .of_effect rfl (.exAfAf rfl)
  | exx => exact .of_effect rfl (.exx rfl)
  | di => exact .of_effect rfl (.di rfl)
  | ei => exact .of_effect rfl (.ei rfl)
  | halt => exact .of_effect rfl (.halt rfl)
  | retn | reti | retnAlias => exact .of_effect rfl (.returns rfl)
  | im0 | im1 | im2 | im0Alias | im1Alias | im2Alias => exact .of_effect rfl (.im rfl)
  | ldIA => exact .of_effect rfl (.ldIA rfl)
  | ldRA => exact .of_effect rfl (.ldRA rfl)
  | nop | ddDiscarded | fdDiscarded => exact .of_keeps rfl (.refl s)
  | daa | neg | negAlias | ldSpHL | ldSpIX | ldSpIY => exact .of_keeps rfl (.of_eq rfl rfl rfl rfl rfl)
  | cpl => exact .of_keeps rfl ((keeps_setReg s .a _).trans (keeps_setFlags _ _ _))
  | exDeHL => exact .of_keeps rfl ((keeps_setDe s _).trans (keeps_setHl _ _))
  | popQq q => exact .of_keeps rfl ((keeps_afterPop s).trans (keeps_setRp2 _ q _))
  | popIX | popIY => exact .of_keeps rfl ((keeps_afterPop s).trans (keeps_setIdx _ _ _))
  | exSpHL => exact .of_keeps rfl ((keeps_swapTop s _).trans (keeps_setHl _ _))
  | exSpIX | exSpIY => exact .of_keeps rfl ((keeps_swapTop s _).trans (keeps_setIdx _ _ _))
  | inAN n => exact .of_keeps rfl ((keeps_ioRead s _).trans (keeps_setReg _ .a _))
  | inRC r =>
    exact .of_keeps rfl (((keeps_ioRead s _).trans (keeps_setReg _ r _)).trans (keeps_setFlags _ _ _))
  | inFC => exact .of_keeps rfl ((keeps_ioRead s _).trans (keeps_setFlags _ _ _))
  | djnz e =>
    have h := keeps_setReg s .b (s.b - 1)
    exact .of_keeps rfl (keeps_ite s (h.trans (keeps_branch _ _ _)) h)
  | jrCc | jpCcNn => exact .of_keeps rfl (keeps_ite s (keeps_branch s _ _) (.refl s))
  | retCc => exact .of_keeps rfl (keeps_ite s ((keeps_ret s).trans (keeps_branch _ _ _)) (.refl s))
  | callCcNn cc nn =>
    exact .of_keeps rfl (keeps_ite s ((keeps_call s nn).trans (keeps_branch _ _ _)) (.refl s))
  | ldi | ldd => exact .of_keeps rfl (keeps_ldElem s _)
  | cpi | cpd => exact .of_keeps rfl (keeps_cpElem s _)
  | ini | ind => exact .of_keeps rfl (keeps_inElem s _)
  | outi | outd => exact .of_keeps rfl (keeps_outElem s _)
  | ldir | lddr => exact .of_keeps rfl (keeps_repeatBlock s (keeps_ldElem · _) _ _)
  | cpir | cpdr => exact .of_keeps rfl (keeps_repeatBlock s (keeps_cpElem · _) _ _)
  | inir | indr => exact .of_keeps rfl (keeps_repeatBlock s (keeps_inElem · _) _ _)
  | otir | otdr => exact .of_keeps rfl (keeps_repeatBlock s (keeps_outElem · _) _ _)
  | _ => exact .of_keeps rfl (by simp)

/-- An instruction that completes has its `Effect`. -/
theorem Effect.of_next {i : Instr} {s t : State} (h : exec i s = .next t) : Effect i s t := by
  rcases exec_answers i s with ⟨u, hu, he⟩ | ⟨-, hr⟩
  · cases hu.symm.trans h
    exact he
  · cases hr.symm.trans h

/-- The caller goes on after an instruction only where it has completed: no instruction ends in a fault. -/
theorem exec_eq_next_of_leaves {i : Instr} {s t : State} (h : leaves (exec i s) = some t) : exec i s = .next t := by
  rcases exec_answers i s with ⟨u, hu, -⟩ | ⟨-, hr⟩
  · rw [hu] at h ⊢
    cases h
    rfl
  · rw [hr] at h
    cases h

theorem Keeps.inv {s t : State} (h : Keeps s t) (hs : Inv s) : Inv t := ⟨h.mem hs.1, h.blockMove hs.2⟩

/-- Every instruction keeps the invariant. -/
theorem Effect.inv {i : Instr} {s t : State} (h : Effect i s t) (hs : Inv s) : Inv t := by
  cases h with
  | keeps h => exact h.inv hs
  | _ => exact hs

/-- No instruction writes the NMI latch (10_state.md R53). -/
theorem Effect.nmi {i : Instr} {s t : State} (h : Effect i s t) : t.nmi = s.nmi := by
  cases h with
  | keeps h => exact congrArg Control.nmi h.control
  | _ => rfl

/-- Only EI and DI write the EI/DI latch (10_state.md R52). -/
theorem Effect.eidi {i : Instr} {s t : State} (h : Effect i s t) (hi : ¬(runs i = .ei ∨ runs i = .di)) :
    t.eidi = s.eidi := by
  cases h with
  | keeps h => exact congrArg Control.eidi h.control
  | di h => exact absurd (.inr h) hi
  | ei h => exact absurd (.inl h) hi
  | _ => rfl

/-- Under `Static` only LD R,A writes R (10_state.md R38). -/
theorem Effect.r {i : Instr} {s t : State} (h : Effect i s t) (hs : s.params.refresh = .static) (hi : i ≠ .ldRA) :
    t.r = s.r := by
  cases h with
  | keeps h => exact h.r hs
  | ldRA h => exact absurd h hi
  | _ => rfl

/-- EI and DI set the EI/DI latch, behind DD or FD too (48_io_cpu.md R475, R476). -/
theorem exec_sets_eidi {i : Instr} {s t : State} (hi : runs i = .ei ∨ runs i = .di) (h : exec i s = .next t) :
    t.eidi = true := by
  unfold runs at hi
  split at hi <;> rcases hi with rfl | rfl <;> cases h <;> rfl

/-! ## Decoding and the step -/

theorem keeps_fetchMany (k : Nat) (s : State) : Keeps s (s.fetchMany k) := by
  induction k generalizing s with
  | zero => exact .refl s
  | succ k ih => exact .trans (t := s.fetch) (.of_eq rfl rfl rfl rfl rfl) (ih s.fetch)

/-- Discarded bytes. -/
theorem keeps_behind (k : Nat) (s : State) : Keeps s (s.behind k) := by
  induction k generalizing s with
  | zero => exact .refl s
  | succ k ih =>
    have h : Keeps s s.behindDiscard := ⟨rfl, (keeps_bumpR s 1).r, id, id, Nat.le_add_right _ _⟩
    exact h.trans (ih s.behindDiscard)

/-- The fetches and the charge before a meaning runs. -/
theorem keeps_dispatched (s : State) (i : Instr) (c : Nat) : Keeps s (s.dispatched i c) :=
  ((keeps_fetchMany _ s).trans (keeps_bumpR _ _)).trans (keeps_charge _ c)

/-- A stop at decode, with T as it was where the step began. -/
theorem keeps_stopAtDecode {s u : State} (h : Keeps s u) (b0 b1 : Byte) :
    Keeps s (u.stopAtDecode s.tStates b0 b1) := by
  have k := (h.trans (keeps_fetchMany (opcodeBytes b0 b1) u)).trans (keeps_bumpR _ (refreshFetches b0 b1))
  exact ⟨k.control, k.r, k.mem, k.blockMove, le_rfl⟩

/-- How the bytes at PC end a step (30_encoding.md R127, 60_exceptions.md R491 to R493). -/
inductive EndsWith (t0 : Nat) (u : State) : Out → Prop where
  | unimplemented (h : ∀ i, decode u.bytesAtPc = .ok i → enabled u.params i = false) :
    EndsWith t0 u (u.unimplemented t0 (u.bytesAtPc.getD 0 0) (u.bytesAtPc.getD 1 0))
  | timingMissing {i : Instr} (hi : decode u.bytesAtPc = .ok i) (he : enabled u.params i = true)
      (hc : primaryCharge u.timing i u.bytesAtPc = none) :
    EndsWith t0 u (u.timingMissing t0 (u.bytesAtPc.getD 0 0) (u.bytesAtPc.getD 1 0))
  | runs {i : Instr} {c : Nat} (hi : decode u.bytesAtPc = .ok i) (hd : i.isDiscarded = false)
      (he : enabled u.params i = true) (hc : primaryCharge u.timing i u.bytesAtPc = some c) :
    EndsWith t0 u (exec i (u.dispatched i c))

/-- Where the bytes at PC end the step, they end it in one of these ways. -/
theorem State.runOnce_endsWith {t0 : Nat} {u : State} {o : Out} (h : u.runOnce t0 = .ends o) : EndsWith t0 u o := by
  unfold State.runOnce at h
  dsimp only at h
  split at h
  · next e he =>
    cases h
    exact .unimplemented (by simp [he])
  · next i hi =>
    split at h
    · next he =>
      split at h
      · next hc =>
        cases h
        exact .timingMissing hi he hc
      · next c hc =>
        have hd : i.isDiscarded = false := by
          cases hd : i.isDiscarded with
          | false => rfl
          | true => simp [exec_discarded hd, hd] at h
        have ho : exec i (u.dispatched i c) = o := by
          split at h <;> simp_all
        exact ho ▸ .runs hi hd he hc
    · next he =>
      cases h
      exact .unimplemented (by simp_all)

/-- Where a chain of discarded bytes ends. -/
theorem runChain_eq_ends {t0 k : Nat} {s : State} {o : Out} (h : runChain t0 k s = .ends o) :
    ∃ j, DiscardsFor j s ∧ (s.behind j).runOnce t0 = .ends o := by
  induction k generalizing s with
  | zero => cases h
  | succ k ih =>
    rw [runChain] at h
    split at h
    · next s' hs =>
      obtain ⟨hd, rfl⟩ := State.runOnce_goesOn_iff.mp hs
      obtain ⟨j, hj, he⟩ := ih h
      exact ⟨j + 1, ⟨hd, hj⟩, he⟩
    · next o' ho =>
      cases h
      exact ⟨0, trivial, ho⟩

/-- The state in which a step that takes no NMI decodes, behind `k` discarded bytes. -/
def State.atOpcode (s : State) (k : Nat) : State := State.behind k { s with eidi := false }

/-- What a step can come to (60_exceptions.md R490, R491, R500). -/
inductive StepGives (s : State) : Out → Prop where
  | nmi (he : s.eidi = false) (hn : s.nmi = true) : StepGives s (.next s.acceptNmi)
  | endless (hn : NoNmi s) (hk : ∀ k, DiscardsFor k s) : StepGives s (.fault (.endlessPrefixChain s.pc))
  | ends {k : Nat} {o : Out} (hn : NoNmi s) (hk : DiscardsFor k s) (h : EndsWith s.tStates (s.atOpcode k) o) :
    StepGives s o

/-- A step takes a pending NMI unless the EI/DI latch is set (60_exceptions.md R500). -/
theorem noNmi_or (s : State) : NoNmi s ∨ s.eidi = false ∧ s.nmi = true := by
  unfold NoNmi
  cases s.eidi <;> cases s.nmi <;> decide

theorem step_of_nmi {s : State} (he : s.eidi = false) (hn : s.nmi = true) : step s = .next s.acceptNmi := by
  simp [step, State.executeOne, he, hn]

theorem step_gives (s : State) : StepGives s (step s) := by
  rcases noNmi_or s with hn | ⟨he, hn⟩
  · rw [step_of_no_nmi hn, State.run_eq]
    cases e : runOn s.tStates { s with eidi := false } with
    | none => exact .endless hn fun k => (discardsFor_eidi false).mp (runOn_eq_none_iff.mp e k)
    | some o =>
      obtain ⟨k, hk⟩ := runOn_eq_some e
      obtain ⟨j, hj, ho⟩ := runChain_eq_ends hk
      exact .ends hn ((discardsFor_eidi false).mp hj) (State.runOnce_endsWith ho)
  · rw [step_of_nmi he hn]
    exact .nmi he hn

theorem State.bytesAtPc_atOpcode (s : State) (k : Nat) : (s.atOpcode k).bytesAtPc = (s.behind k).fetchedBytes 4 := by
  unfold State.atOpcode State.bytesAtPc
  rw [State.behind_eidi, State.fetchedBytes_eidi]

/-- Where a step runs an instruction, no further byte is discarded. -/
theorem runsBehind_le {k j : Nat} {i : Instr} {s : State} (h : RunsBehind k i s) (hj : DiscardsFor j s) : j ≤ k := by
  obtain ⟨-, hdec, hi⟩ := h
  by_contra hlt
  obtain ⟨m, rfl⟩ : ∃ m, j = k + (m + 1) := ⟨j - k - 1, by omega⟩
  have hd : (s.behind k).discards = true := ((discardsFor_add _).mp hj).2.1
  simp [State.discards, State.bytesAtPc, hdec, hi] at hd

/-- A step runs one instruction. -/
theorem runsBehind_unique {k k' : Nat} {i i' : Instr} {s : State} (h : RunsBehind k i s) (h' : RunsBehind k' i' s) :
    i = i' := by
  obtain rfl : k = k' := le_antisymm (runsBehind_le h' h.1) (runsBehind_le h h'.1)
  exact Except.ok.inj (h.2.1.symm.trans h'.2.1)

/-- A completed step that takes no NMI runs an instruction, in a state that differs in nothing that `Keeps` speaks of
from the start of the step with the EI/DI latch clear. -/
theorem StepGives.runs {s t : State} {o : Out} (g : StepGives s o) (hn : NoNmi s) (ho : o = .next t) :
    ∃ k i u, RunsBehind k i s ∧ Keeps { s with eidi := false } u ∧ exec i u = .next t := by
  cases g with
  | nmi he hn' => simp [NoNmi, he, hn'] at hn
  | endless => cases ho
  | @ends k _ _ hk g =>
    cases g with
    | unimplemented => cases ho
    | timingMissing => cases ho
    | @runs i c hi hd _ _ =>
      rw [State.bytesAtPc_atOpcode] at hi
      exact ⟨k, i, _, ⟨hk, hi, hd⟩, (keeps_behind k _).trans (keeps_dispatched _ i c), ho⟩

/-- The invariant holds where the caller may go on. -/
theorem StepGives.inv {s t : State} {o : Out} (g : StepGives s o) (hs : Inv s) (ht : leaves o = some t) : Inv t := by
  cases g with
  | nmi =>
    cases ht
    exact ⟨State.storeWord_wf _ _ hs.1, hs.2⟩
  | endless => cases ht
  | @ends k _ _ _ g =>
    have hu : Keeps { s with eidi := false } (s.atOpcode k) := keeps_behind k _
    cases g with
    | unimplemented | timingMissing =>
      cases ht
      exact (keeps_stopAtDecode hu _ _).inv hs
    | @runs i c =>
      have he := Effect.of_next (exec_eq_next_of_leaves ht)
      exact he.inv ((hu.trans (keeps_dispatched _ i c)).inv hs)

/-! ## The statements -/

/-- Settles O17: each way a step can end keeps the invariant. -/
theorem invariantKept : Obligations.InvariantKept :=
  fun s _ hs ht => (step_gives s).inv hs ht

/-- Settles O18: at reset no cell is listed and the flag is clear. -/
theorem invariantAtReset : Obligations.InvariantAtReset := ⟨rfl, rfl⟩

/-- Settles O20, by the effects of an instruction. -/
theorem shadowSetOnlyExchanged : Obligations.ShadowSetOnlyExchanged := by
  intro i s t h
  cases Effect.of_next h with
  | keeps k => simp [k.fields]
  | exAfAf hi => exact ⟨fun hn => absurd hi hn, fun _ => ⟨rfl, rfl, rfl, rfl, rfl, rfl⟩⟩
  | exx hi => exact ⟨fun _ => ⟨rfl, rfl⟩, fun hn => absurd hi hn⟩
  | _ => exact ⟨fun _ => ⟨rfl, rfl⟩, fun _ => ⟨rfl, rfl, rfl, rfl, rfl, rfl⟩⟩

/-- Settles O21, by the effects of an instruction. -/
theorem controlStateWriters : Obligations.ControlStateWriters := by
  intro i s t h
  cases Effect.of_next h with
  | keeps k => simp [k.fields]
  | di hi | ei hi | halt hi => simp [hi]
  | returns hi => simp [hi, State.returnFromNmi_eq]
  | im hi => simp [hi]
  | ldIA hi => simp [hi]
  | exAfAf | exx | ldRA => simp

/-- Settles O22: R under an instruction, and under a step through the instruction it runs. -/
theorem refreshRegister : Obligations.RefreshRegister := by
  refine ⟨fun i s t hs h hi => (Effect.of_next h).r hs hi, fun k i s t hs h hr hi => ?_⟩
  rcases noNmi_or s with hn | ⟨he, hn⟩
  · obtain ⟨k', i', u, hr', hu, hx⟩ := (step_gives s).runs hn h
    obtain rfl := runsBehind_unique hr hr'
    exact ((Effect.of_next hx).r (hu.params ▸ hs) hi).trans (hu.r hs)
  · cases (step_of_nmi he hn).symm.trans h
    exact (keeps_bumpR s 1).r hs

/-- Settles O10: a step that takes the NMI clears `nmi`; any other runs one instruction, from a clear latch. -/
theorem eiDiLatchSuppressesOnce : Obligations.EiDiLatchSuppressesOnce := by
  intro s t h
  rcases noNmi_or s with hn | ⟨he, hn⟩
  · obtain ⟨k, i, u, hr, hu, hx⟩ := (step_gives s).runs hn h
    have hi := Effect.of_next hx
    have hnmi : t.nmi = s.nmi := hi.nmi.trans (congrArg Control.nmi hu.control)
    refine ⟨fun _ => hnmi, fun he => hnmi.trans (hn.resolve_left (by simp [he])), fun _ => ⟨⟨k, i, hr⟩, ?_⟩⟩
    intro k' i' hr'
    obtain rfl := runsBehind_unique hr hr'
    refine ⟨fun ht => ?_, fun he => exec_sets_eidi he hx⟩
    by_contra hne
    have hclear : t.eidi = false := (hi.eidi hne).trans (congrArg Control.eidi hu.control)
    simp [hclear] at ht
  · cases (step_of_nmi he hn).symm.trans h
    exact ⟨fun ht => by simp [he] at ht, fun _ => rfl, fun h => by simp [NoNmi, he, hn] at h⟩

/-! ## The host register interface (10_state.md R59, R60) -/

theorem toNat_ofBytes (h l : Byte) : (Word.ofBytes h l).toNat = h.toNat * 256 + l.toNat := by
  rw [Word.ofBytes, BitVec.toNat_append, ← Nat.shiftLeft_add_eq_or_of_lt l.isLt, Nat.shiftLeft_eq]

/-- Each pair with its high and its low half. -/
def hostPairs : List (HostReg × HostReg × HostReg) :=
  [(.af, .a, .f), (.bc, .b, .c), (.de, .d, .e), (.hl, .h, .l), (.af', .a', .f'),
    (.bc', .b', .c'), (.de', .d', .e'), (.hl', .h', .l'), (.ix, .ixh, .ixl), (.iy, .iyh, .iyl)]

/-- A register reads as a value of its width. -/
theorem getRegisterValue_lt (s : State) (n : HostReg) : s.getRegisterValue n < 2 ^ n.width := by
  cases n <;> exact BitVec.isLt _

/-- What is written to a register is read back modulo its width. -/
theorem getRegisterValue_setRegisterValue (s : State) (n : HostReg) (v : Int) :
    (s.setRegisterValue n v).getRegisterValue n = (v % (2 ^ n.width : Nat)).toNat := by
  cases n <;> simp [State.setRegisterValue, State.getRegisterValue, HostReg.width, State.af, State.setAf,
    State.getHalf_setHalf]

theorem width_of_mem_hostPairs {x : HostReg × HostReg × HostReg} (hx : x ∈ hostPairs) :
    x.1.width = 16 ∧ x.2.1.width = 8 ∧ x.2.2.width = 8 := by
  revert x
  decide

/-- A pair reads as its two halves. -/
theorem getRegisterValue_pair (s : State) {x : HostReg × HostReg × HostReg} (hx : x ∈ hostPairs) :
    s.getRegisterValue x.1 = s.getRegisterValue x.2.1 * 256 + s.getRegisterValue x.2.2 := by
  have hidx (w : Word) : w.toNat = (Word.hi w).toNat * 256 + (Word.lo w).toNat := by
    rw [← toNat_ofBytes, Word.ofBytes_hi_lo]
  simp only [hostPairs, List.mem_cons, List.not_mem_nil, or_false] at hx
  rcases hx with rfl | rfl | rfl | rfl | rfl | rfl | rfl | rfl | rfl | rfl
  iterate 8 exact toNat_ofBytes _ _
  · exact hidx s.ix
  · exact hidx s.iy

/-- A write to the low half leaves the high half alone. -/
theorem getRegisterValue_high_setRegisterValue_low (s : State) {x : HostReg × HostReg × HostReg} (hx : x ∈ hostPairs)
    (w : Int) :
    (s.setRegisterValue x.2.2 w).getRegisterValue x.2.1 = s.getRegisterValue x.2.1 := by
  simp only [hostPairs, List.mem_cons, List.not_mem_nil, or_false] at hx
  rcases hx with rfl | rfl | rfl | rfl | rfl | rfl | rfl | rfl | rfl | rfl <;>
    simp [State.setRegisterValue, State.getRegisterValue, State.getHalf_setHalf]

/-- A pair written is read in its halves, and halves written are read in the pair. -/
theorem getRegisterValue_halves (s : State) {x : HostReg × HostReg × HostReg} (hx : x ∈ hostPairs) (v w : Int) :
    (s.setRegisterValue x.1 v).getRegisterValue x.2.1 = (v % 65536).toNat / 256
      ∧ (s.setRegisterValue x.1 v).getRegisterValue x.2.2 = (v % 65536).toNat % 256
      ∧ ((s.setRegisterValue x.2.1 v).setRegisterValue x.2.2 w).getRegisterValue x.1
          = (v % 256).toNat * 256 + (w % 256).toNat := by
  obtain ⟨h16, hhi, hlo⟩ := width_of_mem_hostPairs hx
  have hpair : (s.setRegisterValue x.1 v).getRegisterValue x.1 = (v % 65536).toNat := by
    rw [getRegisterValue_setRegisterValue, h16]; rfl
  have hsplit := getRegisterValue_pair (s.setRegisterValue x.1 v) hx
  have hlt := getRegisterValue_lt (s.setRegisterValue x.1 v) x.2.2
  rw [hlo] at hlt
  refine ⟨by omega, by omega, ?_⟩
  rw [getRegisterValue_pair _ hx, getRegisterValue_high_setRegisterValue_low _ hx, getRegisterValue_setRegisterValue,
    getRegisterValue_setRegisterValue, hhi, hlo]
  rfl

/-- Settles O6: the round trip, the pairs, and what a write leaves alone, register by register. -/
theorem hostRegisterRoundTrip : Obligations.HostRegisterRoundTrip := by
  intro s n v w
  refine ⟨getRegisterValue_setRegisterValue s n v, fun x hx => getRegisterValue_halves s hx v w, ?_⟩
  cases n <;> simp [State.setRegisterValue]

end Sys2Proof.Machine
end

section
namespace Sys2Proof.Machine

open Sys2Proof.Machine.Claims

/-! ## The opcode map (30_encoding.md R112, R127) -/

/-- The 256 places of an opcode space. -/
theorem opcode_cases {P : Byte → Prop} (h : ∀ n < 256, P (BitVec.ofNat 8 n)) (op : Byte) : P op := by
  simpa using h op.toNat op.isLt

/-! The fields of an opcode that an encoding puts together, and the operands they stand for. -/

section Fields

variable {x y z : Nat}

@[simp] theorem opX_opXYZ (hx : x < 4) (hy : y < 8) (hz : z < 8) : opX (opXYZ x y z) = x := by
  simp only [opX, opXYZ, BitVec.toNat_ofNat]
  omega

@[simp] theorem opY_opXYZ (hy : y < 8) (hz : z < 8) : opY (opXYZ x y z) = y := by
  simp only [opY, opXYZ, BitVec.toNat_ofNat]
  omega

@[simp] theorem opZ_opXYZ (hz : z < 8) : opZ (opXYZ x y z) = z := by
  simp only [opZ, opXYZ, BitVec.toNat_ofNat]
  omega

end Fields

@[simp] theorem Reg8.field_lt (r : Reg8) : r.field < 8 := by cases r <;> decide
@[simp] theorem Reg8.ofField_field (r : Reg8) : Reg8.ofField r.field = some r := by cases r <;> rfl
@[simp] theorem Rot.field_lt (k : Rot) : k.field < 8 := by cases k <;> decide
@[simp] theorem Rot.ofField_field (k : Rot) : Rot.ofField k.field = k := by cases k <;> rfl
@[simp] theorem fin8_val (b : Fin 8) : fin8 b.val = b := Fin.ofNat_val_eq_self b

/-- What the encoding chapter says of a row: its bytes, that it is an instruction, whether it may stand behind DD or FD,
and the parameters that gate it (30_encoding.md R110, R134 to R138). -/
structure Profile where
  bytes : List Byte
  wellFormed : Bool := true
  fallsThrough : Bool := false
  edUndoc : Bool := false
  ddfdUndoc : Bool := false
  idxcbUndoc : Bool := false

/-- The profile of an instruction. -/
def profile (i : Instr) : Profile where
  bytes := encode i
  wellFormed := i.wellFormed
  fallsThrough := i.fallsThrough
  edUndoc := isEdUndoc i
  ddfdUndoc := isDdfdUndoc i
  idxcbUndoc := isIdxcbUndoc i

/-! A row's profile does not depend on the values of its operand bytes but for their place among its bytes, so each
space is one evaluation per opcode. -/

/-- The base space (30_encoding.md R128 to R131). -/
theorem decodeBase_profile (op b3 : Byte) (nn : Word) :
    (decodeBase op nn.lo nn).map profile = if isPrefixByte op then none else
      some { bytes := [op, nn.lo, nn.hi, b3].take (1 + baseOperands op), fallsThrough := (xyOperands op).isNone } := by
  induction op using opcode_cases with
  | h n hn => interval_cases n <;> rfl

/-- The CB space (30_encoding.md R132). -/
theorem decodeCB_profile (op : Byte) : profile (decodeCB op) = { bytes := [0xCB, op] } := by
  induction op using opcode_cases with
  | h n hn => interval_cases n <;> rfl

/-- The ED space (30_encoding.md R133, R136). -/
theorem decodeED_profile (op : Byte) (nn : Word) :
    (decodeED op nn).map profile = if reservedED op then none else
      some { bytes := [0xED, op, nn.lo, nn.hi].take (instrBytes 0xED op), edUndoc := decide (op ∈ undocumentedED) } := by
  induction op using opcode_cases with
  | h n hn => interval_cases n <;> rfl

/-- The DD and FD spaces (30_encoding.md R134, R137); 0xCB opens a further space. -/
theorem decodeDD_decodeFD_profile (op : Byte) (nn : Word) :
    (decodeDD op nn.lo nn.hi nn).map profile = (if op = 0xCB then none else some
        { bytes := [0xDD, op, nn.lo, nn.hi].take (instrBytes 0xDD op), ddfdUndoc := (xyOperands op).isNone })
      ∧ (decodeFD op nn.lo nn.hi nn).map profile = if op = 0xCB then none else some
        { bytes := [0xFD, op, nn.lo, nn.hi].take (instrBytes 0xFD op), ddfdUndoc := (xyOperands op).isNone } := by
  induction op using opcode_cases with
  | h n hn => interval_cases n <;> exact ⟨rfl, rfl⟩

/-- The DD CB and FD CB spaces (30_encoding.md R135, R138). -/
theorem decodeDDCB_decodeFDCB_profile (d op : Byte) :
    profile (decodeDDCB d op) = { bytes := [0xDD, 0xCB, d, op], idxcbUndoc := decide (op.toNat % 8 ≠ 6) }
      ∧ profile (decodeFDCB d op) = { bytes := [0xFD, 0xCB, d, op], idxcbUndoc := decide (op.toNat % 8 ≠ 6) } := by
  induction op using opcode_cases with
  | h n hn => interval_cases n <;> exact ⟨rfl, rfl⟩

/-- The DD and FD opcodes that are always implemented are those of R134. -/
theorem decodeDDRow_decodeFDRow_isSome (op n1 n2 : Byte) (nn : Word) :
    (decodeDDRow op n1 n2 nn).isSome = decide (op ∈ documentedXY)
      ∧ (decodeFDRow op n1 n2 nn).isSome = decide (op ∈ documentedXY) := by
  induction op using opcode_cases with
  | h n hn => interval_cases n <;> exact ⟨rfl, rfl⟩

theorem xyOperands_isNone (op : Byte) : (xyOperands op).isNone = decide (op ∉ documentedXY) := by
  rw [xyOperands, Option.isNone_map, ← Option.not_isSome, (decodeDDRow_decodeFDRow_isSome op 0 0 0).1, decide_not]

/-- Behind DD or FD an opcode that R134 does not list is read as the base instruction of the same byte, one byte longer
(30_encoding.md R137). -/
theorem decodeRow_behind {op : Byte} (hp : isPrefixByte op = false) (hd : op ∉ documentedXY) (n1 n2 : Byte) :
    (decodeRow 0xDD op n1 n2 = (decodeBase op n1 (Word.ofBytes n2 n1)).map .ddBase
        ∧ instrBytes 0xDD op = 2 + baseOperands op)
      ∧ decodeRow 0xFD op n1 n2 = (decodeBase op n1 (Word.ofBytes n2 n1)).map .fdBase
        ∧ instrBytes 0xFD op = 2 + baseOperands op := by
  have hrow (n1 n2 : Byte) (nn : Word) : decodeDDRow op n1 n2 nn = none ∧ decodeFDRow op n1 n2 nn = none := by
    simpa [hd] using decodeDDRow_decodeFDRow_isSome op n1 n2 nn
  simp_all [isPrefixByte, decodeRow, decodeDD, decodeFD, NextByte.ofByte, instrBytes, xyOperands]

/-- What the encoding chapter says of the row that four bytes select (30_encoding.md R127 to R138). -/
def rowProfile (b0 b1 b2 b3 : Byte) : Profile where
  bytes := [b0, b1, b2, b3].take (instrBytes b0 b1)
  fallsThrough := !isPrefixByte b0 && decide (b0 ∉ documentedXY)
  edUndoc := b0 = 0xED ∧ b1 ∈ undocumentedED
  ddfdUndoc := (b0 = 0xDD ∨ b0 = 0xFD) ∧ b1 ≠ 0xCB ∧ b1 ∉ documentedXY
  idxcbUndoc := (b0 = 0xDD ∨ b0 = 0xFD) ∧ b1 = 0xCB ∧ b3.toNat % 8 ≠ 6

theorem isPrefixByte_iff {b : Byte} : isPrefixByte b = true ↔ b = 0xCB ∨ b = 0xDD ∨ b = 0xED ∨ b = 0xFD := by
  simp [isPrefixByte, or_assoc]

/-- The bytes that open no other space are read in the base space. -/
theorem decodeRow_base {b0 : Byte} (hp : isPrefixByte b0 = false) (b1 b2 b3 : Byte) :
    decodeRow b0 b1 b2 b3 = decodeBase b0 b1 (Word.ofBytes b2 b1) ∧ instrBytes b0 b1 = 1 + baseOperands b0 := by
  simp_all [isPrefixByte, decodeRow, instrBytes]

/-- Four bytes select a row unless they begin with ED and a reserved opcode, and the row has its profile. -/
theorem decodeRow_profile (b0 b1 b2 b3 : Byte) :
    (decodeRow b0 b1 b2 b3).map profile = if b0 = 0xED ∧ reservedED b1 = true then none else
      some (rowProfile b0 b1 b2 b3) := by
  have hed := decodeED_profile b1 (Word.ofBytes b3 b2)
  have hxy := decodeDD_decodeFD_profile b1 (Word.ofBytes b3 b2)
  have hxycb := decodeDDCB_decodeFDCB_profile b2 b3
  simp only [Word.hi_ofBytes, Word.lo_ofBytes, xyOperands_isNone] at hed hxy
  cases hp : isPrefixByte b0 with
  | false =>
    have hbase := decodeBase_profile b0 b3 (Word.ofBytes b2 b1)
    obtain ⟨hrow, hlen⟩ := decodeRow_base hp b1 b2 b3
    simp only [Word.hi_ofBytes, Word.lo_ofBytes, xyOperands_isNone, hp] at hbase
    rw [hrow, hbase]
    simp_all [rowProfile, isPrefixByte]
  | true =>
    rcases isPrefixByte_iff.mp hp with rfl | rfl | rfl | rfl
    · exact congrArg some (decodeCB_profile b1)
    · by_cases hcb : b1 = 0xCB#8
      · subst hcb
        simpa [rowProfile, decodeRow, isPrefixByte, instrBytes] using hxycb.1
      · simpa [rowProfile, decodeRow, isPrefixByte, hcb] using hxy.1
    · simpa [rowProfile, decodeRow, isPrefixByte] using hed
    · by_cases hcb : b1 = 0xCB#8
      · subst hcb
        simpa [rowProfile, decodeRow, isPrefixByte, instrBytes] using hxycb.2
      · simpa [rowProfile, decodeRow, isPrefixByte, hcb] using hxy.2

theorem baseOperands_le_two (op : Byte) : baseOperands op ≤ 2 := by
  unfold baseOperands
  repeat' split
  all_goals omega

/-- No instruction has more than four bytes (30_encoding.md R110). -/
theorem instrBytes_le_four (b0 b1 : Byte) : instrBytes b0 b1 ≤ 4 := by
  have h0 := baseOperands_le_two b0
  have h1 := baseOperands_le_two b1
  have hxy (k : Nat) (h : xyOperands b1 = some k) : k ≤ 2 := by
    unfold xyOperands at h
    obtain ⟨i, -, rfl⟩ := Option.map_eq_some_iff.mp h
    split <;> omega
  unfold instrBytes
  split_ifs <;> try omega
  split
  · next k h => have := hxy k h; omega
  · omega

/-- What the decoder answers, in terms of the row of the first four bytes (30_encoding.md R127). -/
theorem decode_eq_ok_iff {bs : List Byte} {i : Instr} :
    decode bs = .ok i ↔ instrBytes (bs.getD 0 0) (bs.getD 1 0) ≤ bs.length
      ∧ decodeRow (bs.getD 0 0) (bs.getD 1 0) (bs.getD 2 0) (bs.getD 3 0) = some i := by
  unfold decode
  dsimp only
  rw [← Nat.not_lt]
  split_ifs with h <;> [skip; split] <;> simp_all

/-- Four bytes are always enough (30_encoding.md R110). -/
theorem decode_four {b0 b1 b2 b3 : Byte} {i : Instr} :
    decode [b0, b1, b2, b3] = .ok i ↔ decodeRow b0 b1 b2 b3 = some i := by
  simp [decode_eq_ok_iff, instrBytes_le_four]

/-- An instruction that four bytes select has the profile of their row. -/
theorem profile_of_decodeRow {b0 b1 b2 b3 : Byte} {i : Instr} (h : decodeRow b0 b1 b2 b3 = some i) :
    profile i = rowProfile b0 b1 b2 b3 := by
  have hrow := decodeRow_profile b0 b1 b2 b3
  rw [h, Option.map_some] at hrow
  split at hrow
  · cases hrow
  · exact Option.some.inj hrow

/-- Settles O12: the rows of the map, and the bytes that have none. -/
theorem reservedOpcodes : Obligations.ReservedOpcodes := by
  refine ⟨fun op n1 n2 => ?_, fun b0 b1 b2 b3 h0 => ?_⟩
  · have hrow := decodeRow_profile 0xED op n1 n2
    simp only [ne_eq, decode_four, ← Option.eq_none_iff_forall_ne_some]
    rw [← Option.map_eq_none_iff, hrow]
    simp
  · have hrow := decodeRow_profile b0 b1 b2 b3
    rw [if_neg (fun h => h0 h.1)] at hrow
    obtain ⟨i, hi, -⟩ := Option.map_eq_some_iff.mp hrow
    exact ⟨i, decode_four.mpr hi⟩

/-- Settles O13: the gates of the row. -/
theorem undocumentedRowsAreGated : Obligations.UndocumentedRowsAreGated := by
  intro p b0 b1 b2 b3 i h
  obtain ⟨-, -, -, hed, hxy, hxycb⟩ := Profile.mk.inj (profile_of_decodeRow (decode_four.mp h))
  simp only [enabled, hed, hxy, hxycb, Bool.and_eq_true, Bool.or_eq_true, Bool.not_eq_true', decide_eq_false_iff_not,
    beq_iff_eq, ← imp_iff_not_or, and_assoc]

/-- The first `k` of four bytes, zeros behind the end of the bytes, are the first `k` bytes. -/
theorem take_four_getD {bs : List Byte} {k : Nat} (h4 : k ≤ 4) (hk : k ≤ bs.length) :
    [bs.getD 0 0, bs.getD 1 0, bs.getD 2 0, bs.getD 3 0].take k = bs.take k := by
  have hfour : [bs.getD 0 0, bs.getD 1 0, bs.getD 2 0, bs.getD 3 0] = (bs ++ [0, 0, 0, 0]).take 4 := by
    rcases bs with _ | ⟨b0, _ | ⟨b1, _ | ⟨b2, _ | ⟨b3, bs⟩⟩⟩⟩ <;> rfl
  rw [hfour, List.take_take, Nat.min_eq_left h4, List.take_append_of_le_length hk]

/-- Settles O24: the bytes of a row are those it was read from. -/
theorem encodeDecode : Obligations.EncodeDecode := by
  intro bs i h
  obtain ⟨hlen, hrow⟩ := decode_eq_ok_iff.mp h
  obtain ⟨hbytes, hwf, -⟩ := Profile.mk.inj (profile_of_decodeRow hrow)
  rw [take_four_getD (instrBytes_le_four _ _) hlen] at hbytes
  exact ⟨hwf, by rw [hbytes, List.length_take, Nat.min_eq_left hlen]⟩

/-! ## From an instruction to its bytes -/

/-- Four bytes of which the first `n` are an instruction's: they say that there are `n` and select the instruction. -/
def Selects (b0 b1 b2 b3 : Byte) (n : Nat) (i : Instr) : Prop :=
  instrBytes b0 b1 = n ∧ decodeRow b0 b1 b2 b3 = some i

/-- The bytes of an instruction select it, whatever three bytes follow them. -/
def Reads (i : Instr) (bs : List Byte) : Prop :=
  ∀ r1 r2 r3 : Byte,
    match bs with
    | [b0] => Selects b0 r1 r2 r3 1 i
    | [b0, b1] => Selects b0 b1 r1 r2 2 i
    | [b0, b1, b2] => Selects b0 b1 b2 r1 3 i
    | [b0, b1, b2, b3] => Selects b0 b1 b2 b3 4 i
    | _ => False

theorem Reads.decode {i : Instr} {bs : List Byte} (h : Reads i bs) (rest : List Byte) : decode (bs ++ rest) = .ok i := by
  have hr := h (rest.getD 0 0) (rest.getD 1 0) (rest.getD 2 0)
  rw [decode_eq_ok_iff, List.length_append]
  rcases bs with _ | ⟨b0, _ | ⟨b1, _ | ⟨b2, _ | ⟨b3, _ | ⟨b4, bs⟩⟩⟩⟩⟩
  · exact hr.elim
  iterate 4 exact ⟨hr.1.trans_le (Nat.le_add_right _ _), hr.2⟩
  · exact hr.elim

/-- A base instruction that falls through is encoded as alone, behind its DD or FD (30_encoding.md R137). -/
theorem encode_behind {j : Instr} (h : j.fallsThrough = true) :
    encode (.ddBase j) = 0xDD :: encode j ∧ encode (.fdBase j) = 0xFD :: encode j := by
  cases j <;> first | exact absurd h Bool.false_ne_true | exact ⟨rfl, rfl⟩

/-- A base instruction that falls through stands behind no DD or FD itself. -/
theorem isBehind_of_fallsThrough {j : Instr} (h : j.fallsThrough = true) : isBehind j = false := by
  unfold isBehind
  split <;> simp_all [Instr.fallsThrough]

/-- Behind DD and FD a base instruction that falls through is read where it is read alone. -/
theorem decode_behind {bs : List Byte} {j : Instr} (hj : j.fallsThrough = true) (h : decode bs = .ok j) :
    decode (0xDD :: bs) = .ok (.ddBase j) ∧ decode (0xFD :: bs) = .ok (.fdBase j) := by
  obtain ⟨hlen, hrow⟩ := decode_eq_ok_iff.mp h
  obtain ⟨-, -, hft, -⟩ := Profile.mk.inj (profile_of_decodeRow hrow)
  obtain ⟨hp, hd⟩ : isPrefixByte (bs.getD 0 0) = false ∧ bs.getD 0 0 ∉ documentedXY := by simpa [hj] using hft.symm
  obtain ⟨hbase, hbytes⟩ := decodeRow_base hp (bs.getD 1 0) (bs.getD 2 0) (bs.getD 3 0)
  obtain ⟨⟨hdd, hddlen⟩, hfd, hfdlen⟩ := decodeRow_behind hp hd (bs.getD 1 0) (bs.getD 2 0)
  rw [← hbase, hrow] at hdd hfd
  have hlen' : 2 + baseOperands (bs.getD 0 0) ≤ bs.length + 1 := by omega
  exact ⟨decode_eq_ok_iff.mpr ⟨hddlen.trans_le hlen', hdd⟩, decode_eq_ok_iff.mpr ⟨hfdlen.trans_le hlen', hfd⟩⟩

/-- An operand word is put together again from its two bytes. -/
theorem some_ofBytes_hi_lo (f : Word → Instr) (nn : Word) : some (f (Word.ofBytes nn.hi nn.lo)) = some (f nn) := by
  rw [Word.ofBytes_hi_lo]

/-- The bytes of an instruction that is not a base instruction behind DD or FD select it: one evaluation for each value
of the fields in its opcode, and for a field of the last byte of CB, DD CB and FD CB the round trip of the fields. -/
theorem reads_encode (i : Instr) (hi : i.wellFormed = true) (hb : isBehind i = false) : Reads i (encode i) := by
  cases i with
  | ddBase | fdBase => cases hb
  | ddDiscarded w | fdDiscarded w => cases w <;> exact fun _ _ _ => ⟨rfl, rfl⟩
  | ldMnnHL nn | ldHLMnn nn | ldMnnA nn | ldAMnn nn | jpNn nn | callNn nn | ldIXNn nn | ldMnnIX nn | ldIXMnn nn
  | ldIYNn nn | ldMnnIY nn | ldIYMnn nn => exact fun _ _ _ => ⟨rfl, some_ofBytes_hi_lo _ nn⟩
  | ldRpNn p nn | ldMnnRp p nn | ldRpMnn p nn => cases p <;> exact fun _ _ _ => ⟨rfl, some_ofBytes_hi_lo _ nn⟩
  | jpCcNn cc nn | callCcNn cc nn => cases cc <;> exact fun _ _ _ => ⟨rfl, some_ofBytes_hi_lo _ nn⟩
  | jrCc jc e => cases jc <;> exact fun _ _ _ => ⟨rfl, rfl⟩
  | retCc cc => cases cc <;> exact fun _ _ _ => ⟨rfl, rfl⟩
  | addHLRp p | incRp p | decRp p | sbcHLRp p | adcHLRp p | addIXRp p | addIYRp p | popQq p | pushQq p =>
    cases p <;> exact fun _ _ _ => ⟨rfl, rfl⟩
  | rst b | bitMhl b | resMhl b | setMhl b | bitMixd b | resMixd b | setMixd b | bitMiyd b | resMiyd b | setMiyd b =>
    fin_cases b <;> exact fun _ _ _ => ⟨rfl, rfl⟩
  | negAlias y | retnAlias y | im0Alias y => fin_cases y <;> first | exact fun _ _ _ => ⟨rfl, rfl⟩ | cases hi
  | bitR b r | resR b r | setR b r | bitMixdAlias b d r | resMixdCopy b d r | setMixdCopy b d r | rotMixdCopy k d r
  | bitMiydAlias b d r | resMiydCopy b d r | setMiydCopy b d r | rotMiydCopy k d r =>
    exact fun _ _ _ => ⟨rfl, by simp [decodeRow, decodeCB, decodeDDCB, decodeFDCB]⟩
  | incR r | decR r | ldRN r | ldRMhl r | ldMhlR r | addR r | adcR r | subR r | sbcR r | andR r | xorR r | orR r | cpR r
  | rlcR r | rrcR r | rlR r | rrR r | slaR r | sraR r | sllR r | srlR r | inRC r | outCR r | ldRMixd r | ldRMiyd r
  | ldMixdR d r | ldMiydR d r => cases r <;> exact fun _ _ _ => ⟨rfl, rfl⟩
  | ldRR r r' => cases r <;> cases r' <;> exact fun _ _ _ => ⟨rfl, rfl⟩
  | _ => exact fun _ _ _ => ⟨rfl, rfl⟩

/-- Settles O23: behind DD or FD by the base instruction, else by the bytes of the instruction. -/
theorem decodeEncode : Obligations.DecodeEncode := by
  intro i rest hi
  cases hb : isBehind i with
  | false => exact (reads_encode i hi hb).decode rest
  | true =>
    have hbehind {j : Instr} (hj : j.fallsThrough = true) :=
      decode_behind hj ((reads_encode j (wellFormed_of_fallsThrough hj) (isBehind_of_fallsThrough hj)).decode rest)
    unfold isBehind at hb
    split at hb
    · rw [(encode_behind hi).1]
      exact (hbehind hi).1
    · rw [(encode_behind hi).2]
      exact (hbehind hi).2
    · cases hb

/-! ## Behind a DD or FD that selects no row of its own (30_encoding.md R137) -/

/-- What runs behind DD or FD is the base instruction. -/
theorem exec_behind {j : Instr} (h : j.fallsThrough = true) (s : State) :
    exec (.ddBase j) s = exec j s ∧ exec (.fdBase j) s = exec j s := by
  have hb : (if j.fallsThrough then execBaseBehind j s else .refused (.notABaseInstruction j)) = exec j s := by
    rw [if_pos h, execBaseBehind_eq h]
  exact ⟨hb, hb⟩

/-- Settles O60: the base instruction completes, and behind DD or FD it is the same. -/
theorem fallThrough : Obligations.FallThrough := by
  refine ⟨fun i s hi => ?_, fun w s => ⟨⟨s, rfl, .refl _ s⟩, ⟨s, rfl, .refl _ s⟩⟩⟩
  rcases exec_answers i s with ⟨t, ht, -⟩ | ⟨hw, -⟩
  · obtain ⟨hdd, hfd⟩ := exec_behind hi s
    exact ⟨⟨t, hdd.trans ht, ht⟩, ⟨t, hfd.trans ht, ht⟩⟩
  · rw [wellFormed_of_fallsThrough hi] at hw
    cases hw

/-- No instruction ends in a fault. -/
theorem wholeStep_exec (s : State) (i : Instr) (u : State) : wholeStep s (exec i u) = exec i u := by
  rcases exec_answers i u with ⟨t, ht, -⟩ | ⟨-, hr⟩
  · rw [ht]; rfl
  · rw [hr]; rfl

/-- Each way the bytes at PC can end a step, they do end it. -/
theorem EndsWith.runOnce_eq {t0 : Nat} {u : State} {o : Out} (h : EndsWith t0 u o) : u.runOnce t0 = .ends o := by
  unfold State.runOnce
  dsimp only
  cases h with
  | unimplemented h =>
    split
    · rfl
    · next i hi => rw [if_neg (by simp [h i hi])]
  | timingMissing hi he hc => simp [hi, he, hc]
  | runs hi hd he hc =>
    simp only [hi, he, hc, hd, if_true]
    split <;> simp_all

/-- The start of the step shows only in T of a stop at decode (60_exceptions.md R492, R493; log 12). -/
theorem EndsWith.wholeStep {t0 : Nat} {u : State} {o : Out} (h : EndsWith t0 u o) (s : State) :
    EndsWith s.tStates u (wholeStep s o) := by
  cases h with
  | unimplemented h => exact .unimplemented h
  | timingMissing hi he hc => exact .timingMissing hi he hc
  | runs hi hd he hc =>
    rw [wholeStep_exec]
    exact .runs hi hd he hc

/-- What the bytes at PC come to depends on the start of the step as `wholeStep` says. -/
theorem runOn_wholeStep (t0 : Nat) (s u : State) : runOn s.tStates u = (runOn t0 u).map (wholeStep s) := by
  cases h : runOn t0 u with
  | none => exact runOn_eq_none_iff.mpr (runOn_eq_none_iff.mp h)
  | some o =>
    obtain ⟨k, hk⟩ := runOn_eq_some h
    obtain ⟨j, hj, ho⟩ := runChain_eq_ends hk
    rw [runOn_behind _ hj]
    exact runOn_of_ends ((State.runOnce_endsWith ho).wholeStep s).runOnce_eq

/-- A step that begins with a discarded byte is the whole step of the rest. -/
theorem State.run_of_discards {s : State} (h : s.discards = true) : s.run = wholeStep s s.behindDiscard.run := by
  rw [State.run_eq, runOn_discards h, State.run_eq, runOn_wholeStep s.behindDiscard.tStates]
  cases runOn s.behindDiscard.tStates s.behindDiscard <;> rfl

/-- Settles O8: the state behind the byte, with the latch set so that the rest of the step samples no NMI. -/
theorem stepGoesOnBehindADiscardedByte : Obligations.StepGoesOnBehindADiscardedByte := by
  intro s i hn hdec hd he
  have hdis : State.discards { s with eidi := false } = true := by
    unfold State.discards State.bytesAtPc
    rw [State.fetchedBytes_eidi, hdec]
    simp [hd, he]
  refine ⟨{ s.behindDiscard with eidi := true }, rfl, rfl, rfl, refreshGives_bumpR s 1, rfl, ?_, ?_⟩
  · simp [Unchanged, State.behindDiscard]
    intro q
    cases q <;> rfl
  · rw [step_of_no_nmi hn, State.run_of_discards hdis, step_of_no_nmi (.inl rfl)]
    rfl

end Sys2Proof.Machine
end

section
namespace Sys2Proof.Machine

/-! ## Carries, borrows and overflow (40_alu_flags.md R162, R163, R170 to R172) -/

/-- A value at most one modulus out of range is brought into it by one modulus. -/
theorem emod_eq_add_or_self_or_sub {x m : Int} (hl : -m ≤ x) (hu : x < 2 * m) :
    x % m = x + m ∨ x % m = x ∨ x % m = x - m := by
  rcases lt_or_ge x 0 with h0 | h0
  · exact .inl (by rw [← Int.add_emod_right, Int.emod_eq_of_lt (by omega) (by omega)])
  rcases lt_or_ge x m with hm | hm
  · exact .inr (.inl (Int.emod_eq_of_lt h0 hm))
  · exact .inr (.inr (by rw [← Int.sub_emod_right, Int.emod_eq_of_lt (by omega) (by omega)]))

/-- A difference narrowed to a word. -/
theorem toNat_ofInt_eq_emod (w : Nat) (x : Int) : ((BitVec.ofInt w x).toNat : Int) = x % (2 ^ w : Nat) := by
  rw [BitVec.toNat_ofInt, Int.toNat_of_nonneg (Int.emod_nonneg _ (by positivity))]

/-- The low `k` bits of a word, as a number: the digit of H (R162, R170). -/
theorem toNat_and_mask {w k : Nat} {m : BitVec w} (hm : m.toNat = 2 ^ k - 1) (v : BitVec w) :
    (v &&& m).toNat = v.toNat % 2 ^ k := by
  rw [BitVec.toNat_and, hm, Nat.and_two_pow_sub_one_eq_mod]

theorem toNat_and_0x0F (v : Byte) : (v &&& 0x0F).toNat = v.toNat % 16 := toNat_and_mask (k := 4) rfl v

theorem toNat_and_0x0FFF (v : Word) : (v &&& 0x0FFF).toNat = v.toNat % 4096 := toNat_and_mask (k := 12) rfl v

section Overflow

variable {n H : Nat} {a b r : BitVec (n + 1)} {c : Bool}

/-- The top bit of a word of `n + 1` bits says whether the word reaches `2 ^ n`, and where it does the signed value is
`2 ^ (n + 1)` below the unsigned one. -/
theorem topBit_and_toInt (hH : 2 ^ n = H) (a : BitVec (n + 1)) :
    a.toNat < 2 * H ∧ a.getLsbD n = decide (H ≤ a.toNat)
      ∧ a.toInt = a.toNat - (if H ≤ a.toNat then 2 * H else 0 : Nat) := by
  have hw : 2 ^ (n + 1) = 2 * H := by omega
  have htop : a.getLsbD n = decide (H ≤ a.toNat) := hH ▸ a.getLsbD_last
  refine ⟨hw ▸ a.isLt, htop, ?_⟩
  rw [BitVec.toInt_eq_msb_cond, BitVec.msb_eq_getLsbD_last, Nat.add_sub_cancel, htop, hw]
  split_ifs <;> simp_all

/-- A sum with carry in leaves the signed range exactly where both operands differ from the result in the sign. -/
theorem sum_outside_signed_eq (hH : 2 ^ n = H)
    (hr : (r.toNat : Int) = ((a.toNat : Int) + b.toNat + c.toNat) % (2 * H : Nat)) :
    decide (a.toInt + b.toInt + c.toNat < -H ∨ H - 1 < a.toInt + b.toInt + c.toNat)
      = ((a ^^^ r) &&& (b ^^^ r)).getLsbD n := by
  obtain ⟨halt, hatop, ha⟩ := topBit_and_toInt hH a
  obtain ⟨hblt, hbtop, hb⟩ := topBit_and_toInt hH b
  obtain ⟨hrlt, hrtop, -⟩ := topBit_and_toInt hH r
  have hc := c.toNat_le
  have hwrap := emod_eq_add_or_self_or_sub (x := (a.toNat : Int) + b.toNat + c.toNat) (m := (2 * H : Nat))
    (by omega) (by omega)
  rw [← hr] at hwrap
  rw [ha, hb, BitVec.getLsbD_and, BitVec.getLsbD_xor, BitVec.getLsbD_xor, hatop, hbtop, hrtop, Bool.eq_iff_iff]
  simp only [Bool.and_eq_true, bne_iff_ne, ne_eq, decide_eq_decide, decide_eq_true_iff]
  split_ifs <;> omega

/-- The complement of a word, signed and unsigned. -/
theorem toNat_not_and_toInt_not (hH : 2 ^ n = H) (b : BitVec (n + 1)) :
    ((~~~b).toNat : Int) = (2 * H : Nat) - 1 - b.toNat ∧ (~~~b).toInt = -1 - b.toInt := by
  obtain ⟨-, -, hb⟩ := topBit_and_toInt hH b
  obtain ⟨-, -, hnb⟩ := topBit_and_toInt hH (~~~b)
  have hnot : ((~~~b).toNat : Int) = (2 * H : Nat) - 1 - b.toNat := by
    rw [BitVec.toNat_not]
    omega
  refine ⟨hnot, ?_⟩
  rw [hb, hnb]
  split_ifs <;> omega

/-- A difference with borrow in leaves the signed range exactly where the first operand differs in the sign from both
the second and the result: it is the sum with the complements of the second operand and of the borrow. -/
theorem diff_outside_signed_eq (hH : 2 ^ n = H)
    (hr : (r.toNat : Int) = ((a.toNat : Int) - b.toNat - c.toNat) % (2 * H : Nat)) :
    decide (a.toInt - b.toInt - c.toNat < -H ∨ H - 1 < a.toInt - b.toInt - c.toNat)
      = ((a ^^^ b) &&& (a ^^^ r)).getLsbD n := by
  obtain ⟨hnot, hnotInt⟩ := toNat_not_and_toInt_not hH b
  have hc : ((!c).toNat : Int) = 1 - c.toNat := by cases c <;> rfl
  have hsum : (r.toNat : Int) = ((a.toNat : Int) + (~~~b).toNat + (!c).toNat) % (2 * H : Nat) := by
    rw [hr, ← Int.add_emod_right]
    congr 1
    omega
  have hsigned : a.toInt - b.toInt - c.toNat = a.toInt + (~~~b).toInt + (!c).toNat := by omega
  rw [hsigned, sum_outside_signed_eq hH hsum]
  simp only [BitVec.getLsbD_and, BitVec.getLsbD_xor, BitVec.getLsbD_not, Nat.lt_succ_self, decide_true, Bool.true_and]
  cases a.getLsbD n <;> cases b.getLsbD n <;> simp

end Overflow

/-- Outside a range is below or above it. -/
theorem decide_outside_iff {x lo hi : Int} : decide (x < lo ∨ hi < x) = true ↔ ¬(lo ≤ x ∧ x ≤ hi) := by
  rw [decide_eq_true_iff]
  omega

/-- Settles O38: the flags of the result are as the primitives hold them; the masks are remainders, and the two
statements of PV agree by the signs. -/
theorem addSubtractFlags : Obligations.AddSubtractFlags := by
  intro a b cin
  have hsum : (add8 a b cin).1.toNat = (a.toNat + b.toNat + cin.toNat) % 256 := BitVec.toNat_ofNat _ _
  have hdiff : ((sub8 a b cin).1.toNat : Int) = ((a.toNat : Int) - b.toNat - cin.toNat) % 256 :=
    toNat_ofInt_eq_emod 8 _
  simp only [toNat_and_0x0F]
  refine ⟨⟨hsum, rfl, beq_iff_eq, rfl, rfl, decide_eq_true_iff, decide_outside_iff, ?_, rfl, decide_eq_true_iff⟩,
    ⟨hdiff, rfl, beq_iff_eq, rfl, rfl, decide_eq_true_iff, decide_outside_iff, ?_, rfl, decide_eq_true_iff⟩,
    rfl, rfl, rfl, rfl, rfl, rfl, rfl, rfl⟩
  · exact sum_outside_signed_eq (H := 128) rfl (by rw [hsum]; rfl)
  · exact diff_outside_signed_eq (H := 128) rfl hdiff

/-- Settles O43: as for the bytes, over sixteen bits. -/
theorem wordArithmeticFlags : Obligations.WordArithmeticFlags := by
  intro a b f cin
  have hsum : (adc16 a b cin).1.toNat = (a.toNat + b.toNat + cin.toNat) % 65536 := BitVec.toNat_ofNat _ _
  have hdiff : ((sbc16 a b cin).1.toNat : Int) = ((a.toNat : Int) - b.toNat - cin.toNat) % 65536 :=
    toNat_ofInt_eq_emod 16 _
  simp only [toNat_and_0x0FFF]
  refine ⟨⟨BitVec.toNat_ofNat _ _, rfl, rfl, rfl, rfl, rfl, decide_eq_true_iff, rfl, decide_eq_true_iff⟩,
    ⟨hsum, rfl, beq_iff_eq, rfl, rfl, decide_eq_true_iff, decide_outside_iff, ?_, rfl, decide_eq_true_iff⟩,
    ⟨hdiff, rfl, beq_iff_eq, rfl, rfl, decide_eq_true_iff, decide_outside_iff, ?_, rfl, decide_eq_true_iff⟩⟩
  · exact sum_outside_signed_eq (H := 32768) rfl (by rw [hsum]; rfl)
  · exact diff_outside_signed_eq (H := 32768) rfl hdiff

/-! ## Parity and the logical operations (40_alu_flags.md R161, R165 to R167) -/

/-- The exclusive or of bits is their number modulo 2. -/
theorem length_filter_mod_two (p : Nat → Bool) (l : List Nat) :
    (l.filter p).length % 2 = (l.foldr (fun k x => p k ^^ x) false).toNat := by
  induction l with
  | nil => rfl
  | cons k l ih =>
    rw [List.filter_cons, List.foldr_cons]
    cases p k with
    | false => simpa using ih
    | true =>
      rw [if_pos rfl, List.length_cons, Nat.add_mod, ih]
      cases l.foldr (fun k x => p k ^^ x) false <;> rfl

/-- `parity` holds where the number of 1 bits is even. -/
theorem parity_eq_true_iff (v : Byte) :
    parity v = true ↔ ((List.range 8).filter fun k => bit v k).length % 2 = 0 := by
  rw [length_filter_mod_two]
  simp [parity, List.range_succ]

/-- Settles O39: the three operations share their flags, which are those of the result. -/
theorem logicFlagsHold : Obligations.LogicFlags := by
  intro a b
  refine ⟨parity_eq_true_iff a, fun x hx => ?_⟩
  simp only [List.mem_cons, List.not_mem_nil, or_false] at hx
  rcases hx with rfl | rfl | rfl <;>
    exact ⟨rfl, rfl, beq_iff_eq, rfl, rfl, rfl, parity_eq_true_iff _, rfl, rfl⟩

/-! ## Shifts (40_alu_flags.md R173 to R175) -/

/-- The byte shifted left, with a bit in bit 0. -/
theorem shiftLeftIn_eq (v : Byte) (b : Bool) : shiftLeftIn v b = (v <<< 1) ||| BitVec.ofNat 8 b.toNat := by
  have hor := Nat.two_pow_add_eq_or_of_lt (i := 1) b.toNat_lt v.toNat
  rw [Nat.pow_one] at hor
  apply BitVec.eq_of_toNat_eq
  rw [shiftLeftIn, hor, BitVec.toNat_or, BitVec.toNat_shiftLeft, BitVec.toNat_ofNat, BitVec.toNat_ofNat,
    Nat.or_mod_two_pow, Nat.shiftLeft_eq, Nat.pow_one, Nat.mul_comm]

/-- The byte shifted right, with a bit in bit 7. -/
theorem shiftRightIn_eq (v : Byte) (b : Bool) : shiftRightIn v b = (v >>> 1) ||| (BitVec.ofNat 8 b.toNat <<< 7) := by
  have hor : 128 * b.toNat + v.toNat / 2 = 128 * b.toNat ||| v.toNat / 2 :=
    Nat.two_pow_add_eq_or_of_lt (i := 7) (by omega) b.toNat
  have hlow : v.toNat / 2 % 2 ^ 8 = v.toNat / 2 := by omega
  apply BitVec.eq_of_toNat_eq
  rw [shiftRightIn, hor, BitVec.toNat_or, BitVec.toNat_ushiftRight, BitVec.toNat_shiftLeft, BitVec.toNat_ofNat,
    BitVec.toNat_ofNat, Nat.or_mod_two_pow, hlow, Nat.or_comm]
  cases b <;> rfl

/-- Bit `k`, as a number. -/
theorem toNat_bit (v : Byte) (k : Nat) : (bit v k).toNat = v.toNat / 2 ^ k % 2 := Nat.toNat_testBit v.toNat k

/-- Bit 7 shifted down to bit 0. -/
theorem ushiftRight_seven (v : Byte) : v >>> 7 = BitVec.ofNat 8 (bit v 7).toNat := by
  apply BitVec.eq_of_toNat_eq
  rw [BitVec.toNat_ushiftRight, BitVec.toNat_ofNat, toNat_bit, Nat.shiftRight_eq_div_pow]
  omega

/-- Bit 0 shifted up to bit 7. -/
theorem shiftLeft_seven (v : Byte) : v <<< 7 = BitVec.ofNat 8 (bit v 0).toNat <<< 7 := by
  apply BitVec.eq_of_toNat_eq
  rw [BitVec.toNat_shiftLeft, BitVec.toNat_shiftLeft, BitVec.toNat_ofNat, toNat_bit, Nat.shiftLeft_eq, Nat.shiftLeft_eq]
  omega

/-- Bit 7 alone. -/
theorem and_0x80 (v : Byte) : v &&& (0x80 : Byte) = BitVec.ofNat 8 (bit v 7).toNat <<< 7 := by
  have h : v &&& (0x80 : Byte) = if bit v 7 then 0x80 else 0 := BitVec.and_twoPow v 7
  rw [h]
  cases bit v 7 <;> rfl

/-- Settles O45: the bit that a kind puts in is the one that the table shifts or masks into its place. -/
theorem shiftTable : Obligations.ShiftTable := by
  intro v cin cout f
  rw [ushiftRight_seven, shiftLeft_seven, and_0x80]
  exact ⟨Prod.ext (shiftLeftIn_eq v _) rfl, Prod.ext (shiftRightIn_eq v _) rfl,
    Prod.ext (shiftLeftIn_eq v _) rfl, Prod.ext (shiftRightIn_eq v _) rfl,
    Prod.ext ((shiftLeftIn_eq v false).trans BitVec.or_zero) rfl, Prod.ext (shiftRightIn_eq v _) rfl,
    Prod.ext (shiftLeftIn_eq v true) rfl, Prod.ext ((shiftRightIn_eq v false).trans BitVec.or_zero) rfl, rfl, rfl⟩

end Sys2Proof.Machine
end

section
namespace Sys2Proof.Machine

open Sys2Proof.Machine.Claims

/-! ## What changes in the accumulator and the flags alone -/

/-- What two changes leave alone, both together leave alone, each with its own parts. -/
theorem Unchanged.append {l l' : List Part} {s t u : State} (h : Unchanged l s t) (k : Unchanged l' t u) :
    Unchanged (l ++ l') s u :=
  (h.mono fun _ => List.mem_append_left l').trans (k.mono fun _ => List.mem_append_right l)

/-- A write of F with no marked bit. -/
theorem unchanged_f (s : State) (f : Flags) : Unchanged [.f] s { s with f := f } :=
  ⟨fun q _ => by cases q <;> rfl, by simp⟩

/-- A write of A and F with no marked bit. -/
theorem unchanged_a_f (s : State) (v : Byte) (f : Flags) : Unchanged [.reg .a, .f] s { s with a := v, f := f } :=
  (unchanged_setReg s .a v).append (unchanged_f _ f)

/-! ## Decimal adjust and the accumulator and carry controls (R178, 44_alu8.md R337 to R341) -/

/-- The correction of DAA as a number: its two digits do not overlap. -/
theorem toNat_daaCorrection (a : Byte) (f : Flags) :
    (daaCorrection a f).toNat = (if f.h = true ∨ 9 < a.toNat % 16 then 6 else 0)
      + (if f.c = true ∨ 0x99 < a.toNat then 0x60 else 0) := by
  simp only [daaCorrection, Bool.or_eq_true, decide_eq_true_iff]
  split_ifs <;> rfl

/-- DAA after an addition adds the correction (R178). -/
theorem daa_of_add {f : Flags} (hn : f.n = false) (a : Byte) :
    daa a f = ((add8 a (daaCorrection a f) false).1,
      { (add8 a (daaCorrection a f) false).2 with
        c := f.c || decide (0x99 < a.toNat), pv := parity (add8 a (daaCorrection a f) false).1 }) := by
  simp [daa, hn]

/-- DAA after a subtraction subtracts the correction (R178). -/
theorem daa_of_sub {f : Flags} (hn : f.n = true) (a : Byte) :
    daa a f = ((sub8 a (daaCorrection a f) false).1,
      { (sub8 a (daaCorrection a f) false).2 with
        c := f.c || decide (0x99 < a.toNat), pv := parity (sub8 a (daaCorrection a f) false).1 }) := by
  simp [daa, hn]

/-- The result of DAA: A corrected upwards or downwards (R178). -/
theorem toNat_daa (a : Byte) (f : Flags) :
    (daa a f).1.toNat = (if f.n = true then a.toNat + 256 - (daaCorrection a f).toNat
      else a.toNat + (daaCorrection a f).toNat) % 256 := by
  obtain ⟨⟨hsum, -⟩, ⟨hdiff, -⟩, -⟩ := addSubtractFlags a (daaCorrection a f) false
  rw [Bool.toNat_false] at hsum hdiff
  cases hn : f.n with
  | false => rw [daa_of_add hn, if_neg Bool.false_ne_true]; exact hsum
  | true => rw [daa_of_sub hn, if_pos rfl]; dsimp only; omega

/-- The half carry of DAA, from the low digit and the half carry before (R178). -/
theorem daa_h_iff (a : Byte) (f : Flags) :
    (daa a f).2.h = true ↔ if f.n = true then f.h = true ∧ a.toNat % 16 < 6 else 9 < a.toNat % 16 := by
  obtain ⟨⟨-, -, -, -, -, hadd, -⟩, ⟨-, -, -, -, -, hsub, -⟩, -⟩ := addSubtractFlags a (daaCorrection a f) false
  have hlow : (daaCorrection a f).toNat % 16 = if f.h = true ∨ 9 < a.toNat % 16 then 6 else 0 := by
    rw [toNat_daaCorrection]
    split_ifs <;> rfl
  rw [toNat_and_0x0F, toNat_and_0x0F, hlow, Bool.toNat_false] at hadd hsub
  cases hn : f.n with
  | false =>
    rw [daa_of_add hn, if_neg Bool.false_ne_true, hadd]
    split_ifs <;> omega
  | true =>
    rw [daa_of_sub hn, if_pos rfl, hsub]
    by_cases hh : f.h = true
    · rw [if_pos (.inl hh), and_iff_right hh]
      omega
    · simp only [hh, Bool.false_eq_true, false_and, false_or, iff_false]
      split_ifs <;> omega

/-- The other flags of DAA (R178). -/
theorem daa_flags (a : Byte) (f : Flags) :
    (daa a f).2.s = bit (daa a f).1 7 ∧ ((daa a f).2.z = true ↔ (daa a f).1 = 0)
      ∧ (daa a f).2.f5 = bit (daa a f).1 5 ∧ (daa a f).2.f3 = bit (daa a f).1 3
      ∧ (daa a f).2.pv = parity (daa a f).1 ∧ (daa a f).2.n = f.n
      ∧ ((daa a f).2.c = true ↔ f.c = true ∨ 0x99 < a.toNat) := by
  have hc : (f.c || decide (0x99 < a.toNat)) = true ↔ f.c = true ∨ 0x99 < a.toNat := by simp
  cases hn : f.n with
  | false => rw [daa_of_add hn]; exact ⟨rfl, beq_iff_eq, rfl, rfl, rfl, rfl, hc⟩
  | true => rw [daa_of_sub hn]; exact ⟨rfl, beq_iff_eq, rfl, rfl, rfl, rfl, hc⟩

/-- The result of NEG and the flags that its rule states of A alone (44_alu8.md R339): `Sub8(0, A, 0)`. -/
theorem sub8_zero_left (a : Byte) :
    (sub8 0 a false).1 = 0 - a ∧ ((sub8 0 a false).2.z = true ↔ a = 0)
      ∧ ((sub8 0 a false).2.h = true ↔ a &&& 0x0F ≠ 0)
      ∧ ((sub8 0 a false).2.pv = true ↔ a = 0x80) ∧ ((sub8 0 a false).2.c = true ↔ a ≠ 0) := by
  obtain ⟨-, ⟨(hres : _ = ((0 : Int) - a.toNat - 0) % 256), -, hz, -, -,
    (hh : _ ↔ (0 : Int) - (a &&& 0x0F).toNat - 0 < 0),
    (hpv : _ ↔ ¬(-128 ≤ (0 : Int) - a.toInt - 0 ∧ (0 : Int) - a.toInt - 0 ≤ 127)), -, -,
    (hc : _ ↔ (0 : Int) - a.toNat - 0 < 0)⟩, -⟩ := addSubtractFlags 0 a false
  have h0 : (0 : Byte).toNat = 0 := rfl
  have hlo := a.le_toInt
  have hhi := a.toInt_lt
  have hneg : (sub8 0 a false).1 = 0 - a := by
    apply BitVec.eq_of_toNat_eq
    rw [BitVec.toNat_sub, h0]
    omega
  refine ⟨hneg, ?_, ?_, ?_, ?_⟩
  · rw [hz, hneg, sub_eq_zero, eq_comm]
  · rw [hh, ne_eq, ← BitVec.toNat_inj, h0]
    omega
  · rw [hpv, ← BitVec.toInt_inj, show (0x80 : Byte).toInt = -128 from rfl]
    omega
  · rw [hc, ne_eq, ← BitVec.toNat_inj, h0]
    omega

/-- Settles O42: DAA and NEG by the rules above, the others by what `setFlags` gives. -/
theorem accumulatorAdjust : Obligations.AccumulatorAdjust := by
  intro s
  refine ⟨⟨_, rfl, ?_⟩, ⟨_, rfl, State.setFlags_a _ _ _, ?_⟩, fun i hi => ?_,
    ⟨_, rfl, flagsGive_setFlags rfl _ _, unchanged_setFlags s _ _⟩,
    ⟨_, rfl, flagsGive_setFlags rfl _ _, unchanged_setFlags s _ _⟩⟩
  · obtain ⟨hs, hz, hf5, hf3, hpv, hn, hc⟩ := daa_flags s.a s.f
    have hres := toNat_daa s.a s.f
    rw [toNat_daaCorrection] at hres
    exact ⟨hres, hs, hz, hf5, daa_h_iff s.a s.f, hf3, hpv, hn, hc, unchanged_a_f s _ _⟩
  · have hflags := flagsGive_setFlags (s := s) (t := { s with a := ~~~s.a }) rfl
    exact ⟨hflags _ _, (unchanged_setReg s .a _).append (unchanged_setFlags _ _ _)⟩
  · obtain ⟨hneg, hz, hh, hpv, hc⟩ := sub8_zero_left s.a
    have hexec : exec i s = .next { s with a := (sub8 0 s.a false).1, f := (sub8 0 s.a false).2 } := by
      rcases hi with rfl | ⟨y, rfl⟩ <;> rfl
    exact ⟨_, hexec, hneg, rfl, hz, rfl, hh, rfl, hpv, rfl, hc, unchanged_a_f s _ _⟩

/-! ## Bits of an operand (40_alu_flags.md R176, R177, 46_rotate_bit.md R393 to R396) -/

/-- The mask of a bit, shifted into its place. -/
theorem bitMask_eq (b : Fin 8) : bitMask b = (1 : Byte) <<< b.val := by
  revert b
  decide

/-- A bit is 0 exactly where its mask leaves nothing. -/
theorem and_shiftLeft_eq_zero_iff (v : Byte) (b : Fin 8) :
    v &&& ((1 : Byte) <<< b.val) = 0 ↔ (!bit v b.val) = true := by
  have hand : v &&& ((1 : Byte) <<< b.val) = if bit v b.val then (1 : Byte) <<< b.val else 0 :=
    BitVec.and_twoPow v b.val
  have hne : ∀ c : Fin 8, (1 : Byte) <<< c.val ≠ 0 := by decide
  rw [hand]
  cases bit v b.val with
  | false => exact iff_of_true rfl rfl
  | true => exact iff_of_false (hne b) Bool.false_ne_true

/-- The state after the operand is read: one read of a memory operand, nothing for the others (44_alu8.md R320). -/
def Claims.Source.read (s : State) : Source → State
  | .mem a => s.read8 (a s)
  | _ => s

/-- Reading an operand changes the trace alone. -/
theorem Claims.Source.unchanged_read (s : State) (src : Source) : Unchanged [.trace] s (src.read s) := by
  cases src with
  | mem a => exact unchanged_read8 s (a s)
  | _ => exact .refl _ s

/-- The one read of a memory operand is recorded (20_memory.md R94). -/
theorem Claims.Source.read_trace (s : State) (src : Source) : (src.read s).trace = src.traceAfter s := by
  cases src <;> rfl

theorem Claims.Source.read_f (s : State) (src : Source) : (src.read s).f = s.f := by
  cases src <;> rfl

/-- BIT tests the operand it reads (R393). -/
theorem exec_of_bitForm {i : Instr} {b : Fin 8} {src : Source} (h : bitForm i = some (b, src)) (s : State) :
    exec i s = .next ((src.read s).testBit b (src.value s)) := by
  unfold bitForm at h
  split at h <;> cases h <;> rfl

/-- Settles O47: the operand is read, then its bit is tested. -/
theorem bitTests : Obligations.BitTests := by
  intro i s b src h v
  have hz := and_shiftLeft_eq_zero_iff v b
  have hs : (b == 7 && bit v 7) = true ↔ b = 7 ∧ v &&& ((1 : Byte) <<< b.val) ≠ 0 := by
    rw [Bool.and_eq_true, beq_iff_eq, ne_eq, hz]
    refine and_congr_right fun hb => ?_
    rw [hb]
    simp
  have hc : (src.read s).f.c = s.f.c := congrArg Flags.c (src.read_f s)
  exact ⟨_, exec_of_bitForm h s, hs, hz.symm, rfl, rfl, rfl, hz.symm, rfl, hc, src.read_trace s,
    ((src.unchanged_read s).append (unchanged_f _ _)).mono (by simp)⟩

/-- Writing a place. -/
def Claims.Place.put (s : State) (v : Byte) : Place → State
  | .reg r => s.setReg r v
  | .half x k => s.setHalf x k v
  | .vector => { s with i := v }
  | .refresh => { s with r := v }

/-- A place that is written holds the byte. -/
theorem Claims.Place.get_put_same (s : State) (v : Byte) (p : Place) : p.get (p.put s v) = v := by
  cases p with
  | reg r => exact (s.getReg_setReg r r v).trans (if_pos rfl)
  | half x k => exact (s.getHalf_setHalf x x k k v).trans (if_pos ⟨rfl, rfl⟩)
  | vector | refresh => rfl

/-- Every other place holds what it held. -/
theorem Claims.Place.get_put_other (s : State) (v : Byte) {p q : Place} (hq : q ≠ p) :
    q.get (p.put s v) = q.get s := by
  cases p with
  | reg r =>
    cases q with
    | reg r' => exact (s.getReg_setReg r r' v).trans (if_neg fun h => hq (congrArg Place.reg h))
    | _ => cases r <;> rfl
  | half x k =>
    cases q with
    | half y j => exact (s.getHalf_setHalf x y k j v).trans (if_neg fun ⟨hy, hj⟩ => hq (hy ▸ hj ▸ rfl))
    | _ => cases x <;> cases k <;> rfl
  | vector =>
    cases q with
    | vector => exact absurd rfl hq
    | _ => rfl
  | refresh =>
    cases q with
    | refresh => exact absurd rfl hq
    | _ => rfl

/-- Writing a place changes its parts alone. -/
theorem Claims.Place.unchanged_put (s : State) (v : Byte) (p : Place) : Unchanged p.parts s (p.put s v) := by
  cases p with
  | reg r => exact unchanged_setReg s r v
  | half x k =>
    cases x with
    | ix => exact unchanged_setHalf s .ix k v
    | iy => exact unchanged_setHalf s .iy k v
  | vector | refresh => exact ⟨fun q _ => by cases q <;> rfl, by simp [put, parts]⟩

/-- Writing a destination: a place; or a memory operand, read and then written, with the copy register. -/
def Claims.Target.put (s : State) (v : Byte) : Target → State
  | .place p => p.put s v
  | .mem a none => (s.read8 (a s)).write8 (a s) v
  | .mem a (some r) => ((s.read8 (a s)).write8 (a s) v).setReg r v

/-- Writing a destination changes its parts alone. -/
theorem Claims.Target.unchanged_put (s : State) (v : Byte) (tgt : Target) : Unchanged tgt.parts s (tgt.put s v) := by
  have hmem (a : Word) : Unchanged [.mem, .trace] s ((s.read8 a).write8 a v) :=
    ((unchanged_read8 s a).mono (by simp)).trans (unchanged_write8 _ a v)
  match tgt with
  | .place p => exact p.unchanged_put s v
  | .mem a none => exact hmem (a s)
  | .mem a (some r) => exact ((hmem (a s)).append (unchanged_setReg _ r v)).mono (by simp [parts])

/-- A destination that is written receives the byte. -/
theorem Claims.Target.receives_put (s : State) (v : Byte) (tgt : Target) : tgt.Receives s (tgt.put s v) v := by
  have hstore (a : Word) : StoresByte a v s ((s.read8 a).write8 a v) := storesByte_write8 rfl rfl a v
  match tgt with
  | .place p => exact ⟨p.get_put_same s v, fun q hq => Place.get_put_other s v hq⟩
  | .mem a none => exact ⟨hstore (a s), rfl, nofun⟩
  | .mem a (some r) =>
    refine ⟨?_, State.setReg_trace _ r v, fun q hq => ?_⟩
    · unfold StoresByte put
      rw [State.setReg_mem]
      exact hstore (a s)
    · cases hq
      exact (State.getReg_setReg _ r r v).trans (if_pos rfl)

/-- RES and SET write the destination (R394, R395). -/
theorem exec_of_resSetForm {i : Instr} {set : Bool} {b : Fin 8} {tgt : Target}
    (h : resSetForm i = some (set, b, tgt)) (s : State) :
    exec i s = .next (tgt.put s (if set then setBit b (tgt.value s) else resBit b (tgt.value s))) := by
  unfold resSetForm at h
  split at h <;> cases h <;> rfl

/-- Settles O48: the destination is written with the bit cleared or set. -/
theorem bitResetsAndSets : Obligations.BitResetsAndSets := by
  intro i s set b tgt h
  refine ⟨_, exec_of_resSetForm h s, tgt.unchanged_put s _, ?_⟩
  rw [← bitMask_eq]
  exact tgt.receives_put s _

end Sys2Proof.Machine
end

section
namespace Sys2Proof.Machine

open Sys2Proof.Machine.Claims

/-! ## The 8-bit loads and stores (41_load8.md R200 to R219) -/

/-- An 8-bit load writes its value to its place (R200, R201, R214 to R217). -/
theorem exec_of_loadForm {i : Instr} {p : Place} {v : State → Byte} (h : loadForm i = some (p, v)) (s : State) :
    exec i s = .next (p.put s (v s)) := by
  unfold loadForm at h
  split at h <;> cases h <;> rfl

/-- Settles O27: the place is written. -/
theorem byteLoads : Obligations.ByteLoads := fun _ s p v h =>
  ⟨_, exec_of_loadForm h s, p.get_put_same s (v s), fun _ hq => Place.get_put_other s (v s) hq,
    p.unchanged_put s (v s)⟩

/-- An 8-bit load from memory reads its address, taken before the register is written (R202, R205 to R207, R211). -/
theorem exec_of_loadMemForm {i : Instr} {r : Reg8} {a : State → Word} (h : loadMemForm i = some (r, a)) (s : State) :
    exec i s = .next (s.loadReg r (a s)) := by
  unfold loadMemForm at h
  split at h <;> cases h <;> rfl

/-- A load of a register changes it and the trace alone. -/
theorem unchanged_loadReg (s : State) (r : Reg8) (a : Word) : Unchanged [.reg r, .trace] s (s.loadReg r a) :=
  ((unchanged_read8 s a).append (unchanged_setReg _ r _)).mono (by simp)

/-- Settles O28: one read, and its byte goes to the register. -/
theorem byteLoadsFromMemory : Obligations.ByteLoadsFromMemory := fun _ s r a h =>
  ⟨_, exec_of_loadMemForm h s, (State.getReg_setReg _ r r _).trans (if_pos rfl), State.setReg_trace _ r _,
    unchanged_loadReg s r (a s)⟩

/-- An 8-bit store writes its byte at its address (R203, R204, R208 to R210, R212, R213). -/
theorem exec_of_storeForm {i : Instr} {a : State → Word} {v : State → Byte} (h : storeForm i = some (a, v))
    (s : State) : exec i s = .next (s.write8 (a s) (v s)) := by
  unfold storeForm at h
  split at h <;> cases h <;> rfl

/-- Settles O29: one write. -/
theorem byteStores : Obligations.ByteStores := fun _ s a v h =>
  ⟨_, exec_of_storeForm h s, storesByte_write8 rfl rfl (a s) (v s), rfl, unchanged_write8 s (a s) (v s)⟩

/-- The load of A with the flags of LD A,I and LD A,R: H and N are reset, PV is IFF2, C is kept (R218, R219). -/
theorem flagsGive_loadAWithIff (s : State) (v : Byte) :
    FlagsGive Flags.undocF53 ⟨bit v 7, v == 0, bit v 5, false, bit v 3, s.iff2, false, s.f.c⟩ s
      (s.loadAWithIff v) :=
  flagsGive_setFlags (t := { s with a := v }) rfl _ _

/-- It changes A and F alone, and takes a draw for the marked bits. -/
theorem unchanged_loadAWithIff (s : State) (v : Byte) :
    Unchanged [.reg .a, .f, .draws] s (s.loadAWithIff v) :=
  (unchanged_setReg s .a v).append (unchanged_setFlags _ _ _)

/-- Settles O30: LD A,I and LD A,R are that load, of I and of R. -/
theorem loadAFromIAndR : Obligations.LoadAFromIAndR := fun s =>
  ⟨⟨_, rfl, State.setFlags_a _ _ _, flagsGive_loadAWithIff s s.i, unchanged_loadAWithIff s s.i⟩,
    ⟨_, rfl, State.setFlags_a _ _ _, flagsGive_loadAWithIff s s.r, unchanged_loadAWithIff s s.r⟩⟩

/-! ## Words of the opcode map -/

/-- An instruction's bytes alone decode to it (30_encoding.md R110, R127). -/
theorem decode_encode {i : Instr} (hi : i.wellFormed = true) : decode (encode i) = .ok i := by
  simpa using decodeEncode i [] hi

/-- Settles O25: the words of instructions are their encodings; the last word is evaluated, its opcode being reserved
(30_encoding.md R136). -/
theorem decodeWords : Obligations.DecodeWords :=
  ⟨decode_encode (i := .ldRN .a 0x0F) rfl, decode_encode (i := .addN 0x01) rfl,
    decode_encode (i := .ldRMixd .a 0xFE) rfl, decode_encode (i := .ldRpMnn .sp 0x4000) rfl,
    decode_encode (i := .ldir) rfl, decode_encode (i := .bitR 0 .a) rfl,
    decode_encode (i := .rotMixdCopy .rlc 0x00 .b) rfl, decode_encode (i := .reti) rfl,
    decode_encode (i := .ddBase .nop) rfl, decode_encode (i := .ddDiscarded .fd) rfl, rfl⟩

end Sys2Proof.Machine
end

section
namespace Sys2Proof.Machine

open Sys2Proof.Machine.Claims

/-! ## Writing a word place -/

/-- Writing a word place. -/
def Claims.WPlace.put (s : State) (v : Word) : WPlace → State
  | .rp p => s.setRp p v
  | .idx x => s.setIdx x v

/-- A word place that is written holds the word. -/
theorem Claims.WPlace.get_put_same (s : State) (v : Word) (p : WPlace) : p.get (p.put s v) = v := by
  cases p with
  | rp p => exact (s.getRp_setRp p p v).trans (if_pos rfl)
  | idx x => exact (s.getIdx_setIdx x x v).trans (if_pos rfl)

/-- Writing a word place changes its parts alone. -/
theorem Claims.WPlace.unchanged_put (s : State) (v : Word) (p : WPlace) : Unchanged p.parts s (p.put s v) := by
  match p with
  | .rp .bc => exact unchanged_setBc s v
  | .rp .de => exact unchanged_setDe s v
  | .rp .hl => exact unchanged_setHl s v
  | .rp .sp => exact ⟨fun q _ => by cases q <;> rfl, by simp [put, parts, State.setRp]⟩
  | .idx .ix => exact unchanged_setIdx s .ix v
  | .idx .iy => exact unchanged_setIdx s .iy v

/-- A word place holds what it held where none of its parts changes. -/
theorem Claims.WPlace.get_of_unchanged {l : List Part} {s t : State} (h : Unchanged l s t) {q : WPlace}
    (hq : q.parts.Disjoint l) : q.get t = q.get s := by
  obtain ⟨hreg, -, -, hix, hiy, hsp, -⟩ := h
  have pair (r r' : Reg8) (hr : [Part.reg r, .reg r'].Disjoint l) :
      Word.ofBytes (t.getReg r) (t.getReg r') = Word.ofBytes (s.getReg r) (s.getReg r') := by
    rw [hreg r (hr (by simp)), hreg r' (hr (by simp))]
  match q with
  | .rp .bc => exact pair .b .c hq
  | .rp .de => exact pair .d .e hq
  | .rp .hl => exact pair .h .l hq
  | .rp .sp => exact hsp (hq (by simp [parts]))
  | .idx .ix => exact hix (hq (by simp [parts]))
  | .idx .iy => exact hiy (hq (by simp [parts]))

/-- Word places overlap in no part. -/
theorem Claims.WPlace.disjoint_parts {p q : WPlace} (h : q ≠ p) : q.parts.Disjoint p.parts := by
  rcases q with q | q <;> rcases p with p | p <;> cases q <;> cases p <;> simp_all [parts]

/-- No word place lies in memory or in the trace. -/
theorem Claims.WPlace.disjoint_mem_trace (q : WPlace) : q.parts.Disjoint [.mem, .trace] := by
  rcases q with q | q <;> cases q <;> simp [parts]

/-- Writing a word place stores nothing. -/
theorem Claims.WPlace.put_mem (s : State) (v : Word) (p : WPlace) : (p.put s v).mem = s.mem := by
  cases p with
  | rp p => exact s.setRp_mem p v
  | idx x => exact s.setIdx_mem x v

/-- Writing a word place is no access. -/
theorem Claims.WPlace.put_trace (s : State) (v : Word) (p : WPlace) : (p.put s v).trace = s.trace := by
  cases p with
  | rp p => exact s.setRp_trace p v
  | idx x => exact s.setIdx_trace x v

/-- Every other word place holds what it held, also behind a change that lies outside it. -/
theorem Claims.WPlace.get_put_other {l : List Part} {s u : State} (h : Unchanged l s u) (v : Word) {p q : WPlace}
    (hq : q ≠ p) (hl : q.parts.Disjoint l) : q.get (p.put u v) = q.get s :=
  (get_of_unchanged (p.unchanged_put u v) (disjoint_parts hq)).trans (get_of_unchanged h hl)

/-! ## The 16-bit loads, INC and DEC (42_load16_exchange.md R240 to R249, 45_alu16.md R364 to R367) -/

/-- A 16-bit load, INC or DEC writes its value to its place. -/
theorem exec_of_wordForm {i : Instr} {p : WPlace} {v : State → Word} (h : wordForm i = some (p, v)) (s : State) :
    exec i s = .next (p.put s (v s)) := by
  unfold wordForm at h
  split at h <;> cases h <;> rfl

/-- Settles O31: the place is written. -/
theorem wordLoadsAndSteps : Obligations.WordLoadsAndSteps := fun _ s p v h =>
  ⟨_, exec_of_wordForm h s, p.get_put_same s (v s),
    fun _ hq => WPlace.get_put_other (.refl [] s) (v s) hq (List.disjoint_nil_right _), p.unchanged_put s (v s)⟩

/-- A 16-bit load from memory reads the word, then writes the place (R242 to R244). -/
theorem exec_of_loadWordForm {i : Instr} {p : WPlace} {a : Word} (h : loadWordForm i = some (p, a)) (s : State) :
    exec i s = .next (p.put (s.read16 a) (s.wordAt a)) := by
  unfold loadWordForm at h
  split at h <;> cases h <;> rfl

/-- Settles O32: one read, and its word goes to the place. -/
theorem wordLoadsFromMemory : Obligations.WordLoadsFromMemory := fun _ s p a h =>
  have hread : Unchanged [.mem, .trace] s (s.read16 a) := (unchanged_read16 s a).mono (by simp)
  ⟨_, exec_of_loadWordForm h s, p.get_put_same _ _,
    fun q hq => WPlace.get_put_other hread _ hq q.disjoint_mem_trace, p.put_trace _ _,
    (unchanged_read16 s a).append (p.unchanged_put _ _)⟩

/-- A 16-bit store writes its word at its address (R245 to R247). -/
theorem exec_of_storeWordForm {i : Instr} {a : Word} {v : State → Word} (h : storeWordForm i = some (a, v))
    (s : State) : exec i s = .next (s.write16 a (v s)) := by
  unfold storeWordForm at h
  split at h <;> cases h <;> rfl

/-- Settles O33: one write. -/
theorem wordStores : Obligations.WordStores := fun _ s a v h =>
  ⟨_, exec_of_storeWordForm h s, storesWord_write16 rfl rfl a (v s), rfl, unchanged_write16 s a (v s)⟩

/-! ## The stack (42_load16_exchange.md R250 to R253, 20_memory.md R86) -/

/-- PUSH pushes its word (R250, R251). -/
theorem exec_of_pushForm {i : Instr} {v : State → Word} (h : pushForm i = some v) (s : State) :
    exec i s = .next (s.push16 (v s)) := by
  unfold pushForm at h
  split at h <;> cases h <;> rfl

/-- Settles O34: SP is lowered, then one word is written there. -/
theorem pushes : Obligations.Pushes := fun _ s v h =>
  ⟨_, exec_of_pushForm h s, rfl, storesWord_write16 (t := { s with sp := s.sp - 2 }) rfl rfl _ (v s), rfl,
    unchanged_push16 s (v s)⟩

/-- POP takes the word from the stack, then writes the place (R252, R253). -/
theorem exec_of_popForm {i : Instr} {p : WPlace} (h : popForm i = some p) (s : State) :
    exec i s = .next (p.put s.afterPop s.popValue) := by
  unfold popForm at h
  split at h <;> cases h <;> rfl

/-- POP does not load SP. -/
theorem ne_sp_of_popForm {i : Instr} {p : WPlace} (h : popForm i = some p) : WPlace.rp .sp ≠ p := by
  unfold popForm at h
  split at h <;> cases h <;> decide

/-- A word place other than SP is outside what taking a word from the stack changes. -/
theorem Claims.WPlace.disjoint_sp_trace {q : WPlace} (h : q ≠ .rp .sp) : q.parts.Disjoint [.sp, .trace] := by
  have hsp := disjoint_parts h
  have htrace := q.disjoint_mem_trace
  simp_all [parts]

/-- Settles O35: one word is taken from the stack and goes to the place; AF takes it byte by byte. -/
theorem pops : Obligations.Pops := by
  refine ⟨fun i s p h => ?_, fun s => ?_⟩
  · have hsp : (p.put s.afterPop s.popValue).sp = s.sp + 2 :=
      WPlace.get_of_unchanged (p.unchanged_put _ _) (WPlace.disjoint_parts (ne_sp_of_popForm h))
    exact ⟨_, exec_of_popForm h s, p.get_put_same _ _, hsp,
      fun q hq hqsp => WPlace.get_put_other (unchanged_afterPop s) _ hq (WPlace.disjoint_sp_trace hqsp),
      p.put_trace _ _, (unchanged_afterPop s).append (p.unchanged_put _ _)⟩
  · exact ⟨_, rfl, Word.hi_ofBytes _ _, (Flags.pack_unpack _).trans (Word.lo_ofBytes _ _), rfl, rfl,
      ((unchanged_afterPop s).append (unchanged_a_f _ _ _)).mono (by simp)⟩

/-! ## The exchanges (42_load16_exchange.md R260 to R264) -/

/-- EX AF,AF' changes A, F and the shadow set alone. -/
theorem unchanged_exAfAf (s : State) :
    Unchanged [.reg .a, .f, .shadow] s { s with a := s.a', f := s.f', a' := s.a, f' := s.f } :=
  ⟨fun q hq => by
    cases q with
    | a => simp at hq
    | _ => rfl, by simp⟩

/-- EXX changes the six registers and the shadow set alone. -/
theorem unchanged_exx (s : State) :
    Unchanged [.reg .b, .reg .c, .reg .d, .reg .e, .reg .h, .reg .l, .shadow] s
      { s with b := s.b', c := s.c', d := s.d', e := s.e', h := s.h', l := s.l',
               b' := s.b, c' := s.c, d' := s.d, e' := s.e, h' := s.h, l' := s.l } :=
  ⟨fun q hq => by
    cases q with
    | a => rfl
    | _ => simp at hq, by simp⟩

/-- Settles O36: EX DE,HL writes both pairs with their old words; the other two exchange by fields. -/
theorem exchanges : Obligations.Exchanges := fun s =>
  ⟨⟨_, rfl, State.setDe_de s s.hl, State.setHl_hl _ s.de,
      (unchanged_setDe s s.hl).append (unchanged_setHl _ s.de)⟩,
    ⟨_, rfl, rfl, rfl, rfl, rfl, rfl, rfl, rfl, rfl, rfl, rfl, unchanged_exAfAf s⟩,
    ⟨_, rfl, rfl, rfl, rfl, rfl, rfl, rfl, rfl, rfl, rfl, rfl, rfl, rfl, rfl, rfl, unchanged_exx s⟩⟩

/-- EX (SP) reads the top of the stack, stores the register there, then writes the register (R261, R264). -/
theorem exec_of_exSpForm {i : Instr} {p : WPlace} (h : exSpForm i = some p) (s : State) :
    exec i s = .next (p.put (s.swapTop (p.get s)) (s.wordAt s.sp)) := by
  unfold exSpForm at h
  split at h <;> cases h <;> rfl

/-- The two accesses of EX (SP) change memory and the trace alone. -/
theorem unchanged_swapTop (s : State) (x : Word) : Unchanged [.mem, .trace] s (s.swapTop x) :=
  ((unchanged_read16 s s.sp).mono (by simp)).trans (unchanged_write16 _ s.sp x)

/-- Settles O37: the two accesses, then the write of the register. -/
theorem exchangesWithTheStack : Obligations.ExchangesWithTheStack := by
  intro i s p h
  have hstore : StoresWord s.sp (p.get s) s (s.swapTop (p.get s)) := storesWord_write16 rfl rfl s.sp (p.get s)
  have hswap := unchanged_swapTop s (p.get s)
  refine ⟨_, exec_of_exSpForm h s, p.get_put_same _ _,
    fun q hq => WPlace.get_put_other hswap _ hq q.disjoint_mem_trace, ?_, p.put_trace _ _,
    hswap.append (p.unchanged_put _ _)⟩
  rw [StoresWord, p.put_mem]
  exact hstore

end Sys2Proof.Machine
end

section
namespace Sys2Proof.Machine

open Sys2Proof.Machine.Claims

/-! ## One element of a block instruction (43_block.md R282, R283, R286, R287, R290, R291, R294, R295) -/

/-- The step of a pointer, as the machine and as the statements hold it. -/
theorem blockStep_eq_stepOf (up : Bool) : blockStep up = stepOf up := by
  cases up <;> rfl

/-- What a subtraction without carry leaves. -/
theorem sub8_fst (a b : Byte) : (sub8 a b false).1 = a - b := by
  obtain ⟨-, ⟨(hres : _ = ((a.toNat : Int) - b.toNat - 0) % 256), -⟩, -⟩ := addSubtractFlags a b false
  apply BitVec.eq_of_toNat_eq
  rw [BitVec.toNat_sub]
  omega

/-- The flags of a compare element, with the difference written out (R286). -/
theorem blockCompareFlags_eq (a v : Byte) (more : Bool) (f : Flags) :
    blockCompareFlags a v more f =
      let u := a - v - (if (sub8 a v false).2.h then 1 else 0)
      ⟨bit (a - v) 7, a - v == 0, bit u 1, (sub8 a v false).2.h, bit u 3, more, true, f.c⟩ := by
  have hborrow (h : Bool) : BitVec.ofNat 8 h.toNat = if h then 1 else 0 := by cases h <;> rfl
  have hflags : (sub8 a v false).2.s = bit (sub8 a v false).1 7
    ∧ (sub8 a v false).2.z = ((sub8 a v false).1 == 0) := ⟨rfl, rfl⟩
  simp only [blockCompareFlags, hflags, sub8_fst, hborrow]

section Elements

variable (s : State) (up : Bool)

theorem State.ldElem_hl : (s.ldElem up).hl = s.hl + stepOf up := by
  rw [← blockStep_eq_stepOf]
  exact (State.setFlags_hl _ _ _).trans (State.setHl_hl (s.read8 s.hl) _)

theorem State.ldElem_de : (s.ldElem up).de = s.de + stepOf up := by
  rw [← blockStep_eq_stepOf]
  exact (State.setFlags_de _ _ _).trans (State.setDe_de (s.read8 s.hl) _)

theorem State.ldElem_bc : (s.ldElem up).bc = s.bc - 1 :=
  (State.setFlags_bc _ _ _).trans (State.setBc_bc _ _)

theorem State.ldElem_mem : (s.ldElem up).mem = s.storeByte s.de (s.byteAt s.hl) := State.setFlags_mem _ _ _

theorem State.ldElem_trace :
    (s.ldElem up).trace = [.write8 s.de (s.byteAt s.hl), .read8 s.hl (s.byteAt s.hl)] ++ s.trace :=
  State.setFlags_trace _ _ _

theorem storesByte_ldElem : StoresByte s.de (s.byteAt s.hl) s (s.ldElem up) := by
  rw [StoresByte, s.ldElem_mem]
  exact storesByte_write8 rfl rfl s.de (s.byteAt s.hl)

theorem flagsGive_ldElem :
    FlagsGive Flags.undocF53
      ⟨s.f.s, s.f.z, bit (s.a + s.byteAt s.hl) 1, false, bit (s.a + s.byteAt s.hl) 3, s.bc - 1 != 0, false, s.f.c⟩ s
      (s.ldElem up) :=
  flagsGive_setFlags (by rfl) _ _

theorem unchanged_ldElem :
    Unchanged [.reg .b, .reg .c, .reg .d, .reg .e, .reg .h, .reg .l, .f, .draws, .mem, .trace] s (s.ldElem up) :=
  ((((((unchanged_read8 s s.hl).append (unchanged_write8 _ s.de _)).append (unchanged_setHl _ _)).append
    (unchanged_setDe _ _)).append (unchanged_setBc _ _)).append (unchanged_setFlags _ _ _)).mono (by simp)

theorem State.cpElem_hl : (s.cpElem up).hl = s.hl + stepOf up := by
  rw [← blockStep_eq_stepOf]
  exact (State.setFlags_hl _ _ _).trans (State.setHl_hl (s.read8 s.hl) _)

theorem State.cpElem_bc : (s.cpElem up).bc = s.bc - 1 :=
  (State.setFlags_bc _ _ _).trans (State.setBc_bc _ _)

theorem State.cpElem_trace : (s.cpElem up).trace = [.read8 s.hl (s.byteAt s.hl)] ++ s.trace :=
  State.setFlags_trace _ _ _

theorem flagsGive_cpElem :
    let v := s.byteAt s.hl
    let u := s.a - v - (if (sub8 s.a v false).2.h then 1 else 0)
    FlagsGive Flags.undocF53
      ⟨bit (s.a - v) 7, s.a - v == 0, bit u 1, (sub8 s.a v false).2.h, bit u 3, s.bc - 1 != 0, true, s.f.c⟩ s
      (s.cpElem up) := by
  intro v u
  rw [← blockCompareFlags_eq s.a v (s.bc - 1 != 0) s.f]
  exact flagsGive_setFlags (by rfl) _ _

theorem unchanged_cpElem :
    Unchanged [.reg .b, .reg .c, .reg .h, .reg .l, .f, .draws, .trace] s (s.cpElem up) :=
  ((((unchanged_read8 s s.hl).append (unchanged_setHl _ _)).append (unchanged_setBc _ _)).append
    (unchanged_setFlags _ _ _)).mono (by simp)

/-- An element of a block input (true) or output (false) (R290, R291, R294, R295). -/
def State.ioElem (input : Bool) : State := if input then s.inElem up else s.outElem up

/-- The byte that an element of a block input or output moves (R290, R291, R294, R295). -/
def State.ioByte (input : Bool) : Byte := if input then s.ioValue s.bc else s.byteAt s.hl

/-- The sum that gives H and C of a block input or output (R290, R291, R294, R295). -/
def State.ioSum (input : Bool) : Nat :=
  (s.ioByte input).toNat + (if input then (if up then s.c + 1 else s.c - 1) else Word.lo (s.hl + stepOf up)).toNat

variable (input : Bool)

theorem State.ioElem_hl : (s.ioElem up input).hl = s.hl + stepOf up := by
  rw [← blockStep_eq_stepOf]
  cases input <;> exact (State.setFlags_hl _ _ _).trans (State.setHl_hl _ _)

theorem State.ioElem_b : (s.ioElem up input).b = s.b - 1 := by
  cases input <;> exact State.setFlags_b _ _ _

theorem State.ioElem_c : (s.ioElem up input).c = s.c := by
  cases input <;> exact State.setFlags_c _ _ _

theorem State.ioElem_ioIn : (s.ioElem up input).ioIn = if input then s.ioIn.tail else s.ioIn := by
  cases input <;> exact State.setFlags_ioIn _ _ _

theorem State.ioElem_mem : (s.ioElem up input).mem = if input then s.storeByte s.hl (s.ioByte input) else s.mem := by
  cases input <;> exact State.setFlags_mem _ _ _

theorem State.ioElem_trace :
    (s.ioElem up input).trace =
      (if input then [.write8 s.hl (s.ioByte input), .portIn s.bc (s.ioByte input)]
        else [.portOut (Word.ofBytes (s.b - 1) s.c) (s.ioByte input), .read8 s.hl (s.ioByte input)]) ++ s.trace := by
  cases input <;> exact State.setFlags_trace _ _ _

theorem flagsGive_ioElem :
    FlagsGive Flags.undocBlockIo
      ⟨bit (s.b - 1) 7, s.b - 1 == 0, bit (s.b - 1) 5, decide (255 < s.ioSum up input), bit (s.b - 1) 3, s.b - 1 != 0,
        bit (s.ioByte input) 7, decide (255 < s.ioSum up input)⟩ s (s.ioElem up input) := by
  cases input with
  | true => exact flagsGive_setFlags (by rfl) _ _
  | false =>
    rw [State.ioSum, ← blockStep_eq_stepOf]
    exact flagsGive_setFlags (by rfl) _ _

theorem unchanged_ioElem :
    Unchanged ((if input then [.mem, .ioIn] else []) ++ [.reg .b, .reg .h, .reg .l, .f, .draws, .trace]) s
      (s.ioElem up input) := by
  cases input with
  | true =>
    exact (((((unchanged_ioRead s s.bc).append (unchanged_write8 _ s.hl _)).append
      (unchanged_setReg _ .b (s.b - 1))).append (unchanged_setHl _ _)).append (unchanged_setFlags _ _ _)).mono (by simp)
  | false =>
    exact (((((unchanged_read8 s s.hl).append (unchanged_setReg _ .b (s.b - 1))).append
      (unchanged_ioWrite _ _ _)).append (unchanged_setHl _ _)).append (unchanged_setFlags _ _ _)).mono (by simp)

theorem keeps_ioElem : Keeps s (s.ioElem up input) := by
  cases input
  · exact keeps_outElem s up
  · exact keeps_inElem s up

end Elements

/-- Settles O54: one element of each direction. -/
theorem blockElements : Obligations.BlockElements := by
  intro s up
  refine ⟨⟨s.ldElem up, by cases up <;> rfl, s.ldElem_hl up, s.ldElem_de up, s.ldElem_bc up, storesByte_ldElem s up,
    s.ldElem_trace up, flagsGive_ldElem s up, unchanged_ldElem s up⟩, ?_⟩
  exact ⟨s.cpElem up, by cases up <;> rfl, s.cpElem_hl up, s.cpElem_bc up, s.cpElem_trace up, flagsGive_cpElem s up,
    unchanged_cpElem s up⟩

/-- Settles O55: one element of each direction. -/
theorem blockIoElements : Obligations.BlockIoElements := by
  intro s up
  constructor
  · have hstore : StoresByte s.hl (s.ioByte true) s (s.ioElem up true) := by
      rw [StoresByte, State.ioElem_mem]
      exact storesByte_write8 rfl rfl s.hl (s.ioByte true)
    have hflags := flagsGive_ioElem s up true
    rw [← s.ioElem_b up true] at hflags
    exact ⟨s.ioElem up true, by cases up <;> rfl, s.ioElem_b up true, s.ioElem_hl up true, hstore,
      s.ioElem_ioIn up true, s.ioElem_trace up true, hflags, (unchanged_ioElem s up true).mono (by simp)⟩
  · have hflags := flagsGive_ioElem s up false
    rw [← s.ioElem_b up false] at hflags
    exact ⟨s.ioElem up false, by cases up <;> rfl, s.ioElem_b up false, s.ioElem_hl up false,
      s.ioElem_trace up false, hflags, unchanged_ioElem s up false⟩

end Sys2Proof.Machine
end

section
namespace Sys2Proof.Machine

open Sys2Proof.Machine.Claims

/-! ## Pointers and counters that step -/

/-- A pointer one step on, and then `n` more. -/
theorem step_then_steps {w : Nat} (x d : BitVec w) (n : Nat) :
    x + d + d * BitVec.ofNat w n = x + d * BitVec.ofNat w (n + 1) := by
  rw [BitVec.ofNat_add, BitVec.mul_add, BitVec.mul_one, BitVec.add_assoc, BitVec.add_comm d]

/-- The addresses of fewer than 65536 elements are all different. -/
theorem address_injective {up : Bool} {x : Word} {j k : Nat} (hj : j < 65536) (hk : k < 65536)
    (h : x + stepOf up * BitVec.ofNat 16 j = x + stepOf up * BitVec.ofNat 16 k) : j = k := by
  have hofNat : BitVec.ofNat 16 j = BitVec.ofNat 16 k := by
    have hsteps := add_left_cancel h
    cases up with
    | true => simpa [stepOf] using hsteps
    | false =>
      have hneg : (-1 : Word) * BitVec.ofNat 16 j = -1 * BitVec.ofNat 16 k := hsteps
      rwa [neg_one_mul, neg_one_mul, neg_inj] at hneg
  simpa [Nat.mod_eq_of_lt hj, Nat.mod_eq_of_lt hk] using congrArg BitVec.toNat hofNat

/-- How many decrements take a counter to 0: 2^w of them where it is 0 (43_block.md R281). -/
def countdown {w : Nat} (b : BitVec w) : Nat := if b = 0 then 2 ^ w else b.toNat

/-- A counter is 0 after some decrements where it held their number modulo 2^w. -/
theorem sub_ofNat_eq_zero_iff {w : Nat} (b : BitVec w) (n : Nat) :
    b - BitVec.ofNat w n = 0 ↔ b.toNat = n % 2 ^ w := by
  rw [sub_eq_zero, ← BitVec.toNat_inj, BitVec.toNat_ofNat]

theorem countdown_pos {w : Nat} (b : BitVec w) : 0 < countdown b := by
  unfold countdown
  split
  · positivity
  · next hb => exact Nat.pos_of_ne_zero fun h => hb (BitVec.eq_of_toNat_eq h)

theorem sub_countdown {w : Nat} (b : BitVec w) : b - BitVec.ofNat w (countdown b) = 0 := by
  rw [sub_ofNat_eq_zero_iff, countdown]
  split
  · next hb => simp [hb]
  · exact (Nat.mod_eq_of_lt b.isLt).symm

theorem countdown_le {w : Nat} (b : BitVec w) : countdown b ≤ 2 ^ w := by
  unfold countdown
  split
  · exact le_rfl
  · exact b.isLt.le

/-- A number of decrements that takes a counter to 0 is 0 or at least `countdown`. -/
theorem countdown_le_of_sub_eq_zero {w n : Nat} {b : BitVec w} (hn : 0 < n) (h : b - BitVec.ofNat w n = 0) :
    countdown b ≤ n := by
  by_contra hlt
  have hmod : n % 2 ^ w = n := Nat.mod_eq_of_lt (by have := countdown_le b; omega)
  rw [sub_ofNat_eq_zero_iff, hmod] at h
  have hb : b ≠ 0 := by rintro rfl; simp at h; omega
  rw [countdown, if_neg hb] at hlt
  omega

/-- A counter short of its last decrement is not 0. -/
theorem sub_ofNat_ne_zero {w n : Nat} {b : BitVec w} (hn : 0 < n) (h : n < countdown b) : b - BitVec.ofNat w n ≠ 0 :=
  fun h0 => (countdown_le_of_sub_eq_zero hn h0).not_gt h

/-! ## Stores one after another -/

section Stores

variable {cells : Nat → Word → Byte} {adr : Nat → Word} {byte : Nat → Byte}
  (hstore : ∀ j a, cells (j + 1) a = if a = adr j then byte j else cells j a)

include hstore

/-- A byte that no store is at is as before. -/
theorem cells_of_ne {n : Nat} {a : Word} (ha : ∀ j < n, a ≠ adr j) : cells n a = cells 0 a := by
  induction n with
  | zero => rfl
  | succ n ih => rw [hstore, if_neg (ha n n.lt_succ_self), ih fun j hj => ha j (by omega)]

/-- Stores at different addresses all last. -/
theorem cells_adr {n : Nat} (hadr : ∀ j < n, ∀ k < n, adr j = adr k → j = k) {j : Nat} (hj : j < n) :
    cells n (adr j) = byte j := by
  induction n with
  | zero => omega
  | succ n ih =>
    rw [hstore]
    split
    · next heq => rw [hadr j hj n n.lt_succ_self heq]
    · next hne =>
      have hjn : j ≠ n := by rintro rfl; exact hne rfl
      exact ih (fun j hj k hk => hadr j (by omega) k (by omega)) (by omega)

end Stores

/-- A block copy, its last element put last (43_block.md R284, R285). -/
theorem copied_succ (up : Bool) (n : Nat) (src dst : Word) (g : Word → Byte) (a : Word) :
    copied up (n + 1) src dst g a =
      if a = dst + stepOf up * BitVec.ofNat 16 n then copied up n src dst g (src + stepOf up * BitVec.ofNat 16 n)
      else copied up n src dst g a := by
  induction n generalizing src dst g with
  | zero => simp [copied]
  | succ n ih =>
    have h := ih (src + stepOf up) (dst + stepOf up) (fun a => if a = dst then g src else g a)
    rw [step_then_steps, step_then_steps] at h
    exact h

/-- The byte at a destination address of a block copy is the one its element read (43_block.md R282 to R285). -/
theorem copied_destination {up : Bool} {n j : Nat} (hn : n ≤ 65536) (hj : j < n) (src dst : Word)
    (g : Word → Byte) :
    copied up n src dst g (dst + stepOf up * BitVec.ofNat 16 j)
      = copied up j src dst g (src + stepOf up * BitVec.ofNat 16 j) :=
  cells_adr (cells := fun n a => copied up n src dst g a) (fun j a => copied_succ up j src dst g a)
    (fun _ hj _ hk => address_injective (by omega) (by omega)) hj

/-- A byte outside the destination of a block copy is as before. -/
theorem copied_outside {up : Bool} {n : Nat} {src dst a : Word} {g : Word → Byte}
    (ha : ∀ j < n, a ≠ dst + stepOf up * BitVec.ofNat 16 j) : copied up n src dst g a = g a :=
  cells_of_ne (cells := fun n a => copied up n src dst g a) (fun j a => copied_succ up j src dst g a) ha

/-- A block whose destination is one step ahead of its source is filled with its first byte. -/
theorem copied_one_step_ahead {up : Bool} {n j : Nat} (hn : n ≤ 65536) (hj : j < n) (src : Word) (g : Word → Byte) :
    copied up n src (src + stepOf up) g (src + stepOf up + stepOf up * BitVec.ofNat 16 j) = g src := by
  induction j generalizing n with
  | zero => rw [copied_destination hn hj]; simp [copied]
  | succ j ih => rw [copied_destination hn hj, ← step_then_steps, ih (by omega) (by omega)]

/-! ## What an element answers, listed -/

theorem getElem?_map_range {α : Type} {f : Nat → α} {n j : Nat} {v : α} (h : ((List.range n).map f)[j]? = some v) :
    j < n ∧ v = f j := by
  rw [List.getElem?_map, Option.map_eq_some_iff] at h
  obtain ⟨k, hk, rfl⟩ := h
  obtain ⟨hj, rfl⟩ := List.getElem?_eq_some_iff.mp hk
  rw [List.length_range] at hj
  exact ⟨hj, by rw [List.getElem_range]⟩

theorem take_map_range {α : Type} (f : Nat → α) {n j : Nat} (h : j ≤ n) :
    ((List.range n).map f).take j = (List.range j).map f := by
  rw [← List.map_take, List.take_range, Nat.min_eq_left h]

/-- The accesses of element `k` of a block copy, the last first (43_block.md R282, R283). -/
def copyAccesses (up : Bool) (src dst : Word) (k : Nat) (v : Byte) : List Event :=
  [.write8 (dst + stepOf up * BitVec.ofNat 16 k) v, .read8 (src + stepOf up * BitVec.ofNat 16 k) v]

/-- The accesses of a block copy, its last element put last. -/
theorem copyEvents_append (up : Bool) (src dst : Word) (vs : List Byte) (v : Byte) :
    copyEvents up src dst (vs ++ [v]) = copyAccesses up src dst vs.length v ++ copyEvents up src dst vs := by
  induction vs generalizing src dst with
  | nil => simp [copyEvents, copyAccesses]
  | cons w vs ih =>
    simp only [List.cons_append, copyEvents, ih, copyAccesses, step_then_steps, List.length_cons, List.append_assoc]

/-- The access of element `k` of a block search (43_block.md R286, R287). -/
def searchAccesses (up : Bool) (src : Word) (k : Nat) (v : Byte) : List Event :=
  [.read8 (src + stepOf up * BitVec.ofNat 16 k) v]

/-- The accesses of a block search, its last element put last. -/
theorem searchEvents_append (up : Bool) (src : Word) (vs : List Byte) (v : Byte) :
    searchEvents up src (vs ++ [v]) = searchAccesses up src vs.length v ++ searchEvents up src vs := by
  induction vs generalizing src with
  | nil => simp [searchEvents, searchAccesses]
  | cons w vs ih =>
    simp only [List.cons_append, searchEvents, ih, searchAccesses, step_then_steps, List.length_cons, List.append_assoc]

/-- A counter one step down, and then `n` more. -/
theorem sub_one_sub_ofNat {w : Nat} (b : BitVec w) (n : Nat) :
    b - 1 - BitVec.ofNat w n = b - BitVec.ofNat w (n + 1) := by
  rw [BitVec.ofNat_add, sub_sub, add_comm]
  rfl

/-- The accesses of element `k` of a block input or output, the last first (43_block.md R290, R291, R294, R295). -/
def ioAccesses (input up : Bool) (c b : Byte) (a : Word) (k : Nat) (v : Byte) : List Event :=
  if input then
    [.write8 (a + stepOf up * BitVec.ofNat 16 k) v, .portIn (Word.ofBytes (b - BitVec.ofNat 8 k) c) v]
  else
    [.portOut (Word.ofBytes (b - BitVec.ofNat 8 k - 1) c) v, .read8 (a + stepOf up * BitVec.ofNat 16 k) v]

/-- The accesses of a block input or output, its last element put last. -/
theorem ioEvents_append (input up : Bool) (c b : Byte) (a : Word) (vs : List Byte) (v : Byte) :
    ioEvents input up c b a (vs ++ [v]) = ioAccesses input up c b a vs.length v ++ ioEvents input up c b a vs := by
  induction vs generalizing b a with
  | nil => simp [ioEvents, ioAccesses]
  | cons w vs ih =>
    simp only [List.cons_append, ioEvents, ih, ioAccesses, step_then_steps, sub_one_sub_ofNat, List.length_cons,
      List.append_assoc]

end Sys2Proof.Machine
end

section
namespace Sys2Proof.Machine

open Sys2Proof.Machine.Claims

/-- In plain RAM a byte read is the cell (20_memory.md R87). -/
theorem State.byteAt_ram {s : State} (h : s.params.memModel = .ram) (a : Word) :
    s.byteAt a = Memory.read s.mem a.toNat := by
  rw [State.byteAt, h]

/-- Under a collaborator a byte read is the free answer (20_memory.md R87; log 7). -/
theorem State.byteAt_collaborator {s : State} (h : s.params.memModel = .collaborator) (a : Word) :
    s.byteAt a = Config.memAnswer s.trace a := by
  rw [State.byteAt, h]

/-! ## The loop of a repeating block instruction (43_block.md R280, R281) -/

/-- The state with the flag of the repeat as given (10_state.md R54). -/
def State.withBlockMove (s : State) (v : Bool) : State := { s with blockMove := v }

/-- The state behind one element, its charge and its refresh count, where the repeat goes on (R280). -/
def State.afterElem (s : State) (elem : State → State) (op : Byte) : State :=
  ((elem s).chargeDelta (elem s).timing.edAlt op).bumpR 2

/-- The state of a repeat behind `j` elements that all went on (R280). -/
def State.atElem (s : State) (elem : State → State) (op : Byte) : Nat → State
  | 0 => s.withBlockMove true
  | j + 1 => (s.atElem elem op j).afterElem elem op

/-- The state behind a repeat of `n + 1` elements (R280). -/
def State.repeatEnd (s : State) (elem : State → State) (op : Byte) (n : Nat) : State :=
  (elem (s.atElem elem op n)).withBlockMove false

section Fields

variable (s : State) (elem : State → State) (op : Byte) (n : Nat)

theorem State.atElem_succ_b : (s.atElem elem op (n + 1)).b = (elem (s.atElem elem op n)).b := rfl
theorem State.atElem_succ_bc : (s.atElem elem op (n + 1)).bc = (elem (s.atElem elem op n)).bc := rfl
theorem State.atElem_succ_mem : (s.atElem elem op (n + 1)).mem = (elem (s.atElem elem op n)).mem := rfl
theorem State.atElem_succ_ioIn : (s.atElem elem op (n + 1)).ioIn = (elem (s.atElem elem op n)).ioIn := rfl

theorem State.repeatEnd_hl : (s.repeatEnd elem op n).hl = (elem (s.atElem elem op n)).hl := rfl
theorem State.repeatEnd_f : (s.repeatEnd elem op n).f = (elem (s.atElem elem op n)).f := rfl

end Fields

/-- What is in a part that is not named as changed, for the parts that a repeat counts in. -/
theorem Unchanged.counts {l : List Part} {s t : State} (h : Unchanged l s t) (hT : .tStates ∉ l) (hR : .r ∉ l) :
    t.tStates = s.tStates ∧ t.r = s.r ∧ t.timing = s.timing := by
  obtain ⟨-, -, -, -, -, -, -, -, r, -, -, -, -, -, -, tStates, -, -, -, -, -, -, timing, -⟩ := h
  exact ⟨tStates hT, r hR, timing⟩

/-- The flag of the repeat, set before it and cleared behind it, is in no part. -/
theorem Unchanged.blockMove {l : List Part} {s t : State} (h : Unchanged l (s.withBlockMove true) t)
    (hb : s.blockMove = false) : Unchanged l s (t.withBlockMove false) := by
  obtain ⟨reg, f, shadow, ix, iy, sp, pc, i, r, iff1, iff2, halt, eidi, nmi, im, tStates, mem, trace, ioIn, draws, -,
    constants⟩ := h
  exact ⟨fun q hq => by cases q <;> exact reg _ hq, f, shadow, ix, iy, sp, pc, i, r, iff1, iff2, halt, eidi, nmi, im,
    tStates, mem, trace, ioIn, draws, hb.symm, constants⟩

/-- The result of a flag rule depends on the state before by its policy and on the state after by F. -/
theorem FlagsGive.of_eq {m f : Flags} {s s' t t' : State} (h : FlagsGive m f s t) (hp : s'.params = s.params)
    (hf : t'.f = t.f) : FlagsGive m f s' t' := by
  rwa [FlagsGive, hp, hf]

/-- R as before is R behind no fetch. -/
theorem refreshGives_zero {s t : State} (h : t.r = s.r) : RefreshGives 0 s t :=
  ⟨fun _ => h, fun _ => by simp [h]⟩

/-- The charge and the refresh count between two elements change T and R alone. -/
theorem unchanged_between (s : State) (op : Byte) :
    Unchanged [.tStates, .r] s ((s.chargeDelta s.timing.edAlt op).bumpR 2) :=
  (unchanged_charge s _).append (unchanged_bumpR _ 2)

section Repeat

variable {s : State} {elem : State → State} {op : Byte}

/-- What neither an element nor the charge behind it changes is as at the start. -/
theorem atElem_const {α : Type} (p : State → α)
    (hcharge : ∀ u, p ((u.chargeDelta u.timing.edAlt op).bumpR 2) = p u) (helem : ∀ u, p (elem u) = p u) (j : Nat) :
    p (s.atElem elem op j) = p (s.withBlockMove true) := by
  induction j with
  | zero => rfl
  | succ j ih => exact ((hcharge _).trans (helem _)).trans ih

/-- A pointer that every element steps. -/
theorem atElem_pointer {w : Nat} {d : BitVec w} (p : State → BitVec w)
    (hcharge : ∀ u, p ((u.chargeDelta u.timing.edAlt op).bumpR 2) = p u) (helem : ∀ u, p (elem u) = p u + d)
    (j : Nat) : p (s.atElem elem op j) = p (s.withBlockMove true) + d * BitVec.ofNat w j := by
  induction j with
  | zero => simp [State.atElem]
  | succ j ih =>
    rw [State.atElem, State.afterElem, hcharge, helem, ih, BitVec.ofNat_add, BitVec.mul_add, BitVec.mul_one,
      BitVec.add_assoc]

/-- A counter that every element steps down. -/
theorem atElem_counter {w : Nat} (p : State → BitVec w)
    (hcharge : ∀ u, p ((u.chargeDelta u.timing.edAlt op).bumpR 2) = p u) (helem : ∀ u, p (elem u) = p u - 1)
    (j : Nat) : p (s.atElem elem op j) = p (s.withBlockMove true) - BitVec.ofNat w j := by
  rw [atElem_pointer (d := -1) p hcharge (fun u => (helem u).trans (sub_eq_add_neg _ _)) j, neg_one_mul,
    ← sub_eq_add_neg]

/-- The accesses of the elements so far, the last first. -/
theorem atElem_trace {events : List Byte → List Event} {ev : Nat → Byte → List Event} {byte : Nat → Byte}
    (hnil : events [] = []) (happend : ∀ vs v, events (vs ++ [v]) = ev vs.length v ++ events vs)
    (helem : ∀ j, (elem (s.atElem elem op j)).trace = ev j (byte j) ++ (s.atElem elem op j).trace) (j : Nat) :
    (s.atElem elem op j).trace = events ((List.range j).map byte) ++ s.trace := by
  induction j with
  | zero => rw [List.range_zero, List.map_nil, hnil]; rfl
  | succ j ih =>
    rw [List.range_succ, List.map_append, List.map_singleton, happend, List.length_map, List.length_range,
      List.append_assoc, ← ih]
    exact helem j

/-- What every element keeps, the repeat keeps. -/
theorem keeps_atElem (helem : ∀ u, Keeps u (elem u)) (j : Nat) :
    Keeps (s.withBlockMove true) (s.atElem elem op j) := by
  induction j with
  | zero => exact .refl _
  | succ j ih => exact (ih.trans (helem _)).trans (keeps_between _ op)

/-- The loop ends in the first element that does not go on (R280, R281). -/
theorem blockLoop_atElem {cont : State → Bool} {l : Nat} (hmore : ∀ i < l, cont (elem (s.atElem elem op i)) = true)
    (hend : cont (elem (s.atElem elem op l)) = false) {k j : Nat} (hj : j ≤ l) (hk : l ≤ j + k) :
    blockLoop elem cont op (k + 1) (s.atElem elem op j) = elem (s.atElem elem op l) := by
  rcases hj.eq_or_lt with rfl | hlt
  · rw [blockLoop_succ, if_neg (by simp [hend])]
  · rw [blockLoop_succ, if_pos (hmore j hlt)]
    cases k with
    | zero => omega
    | succ k => exact blockLoop_atElem hmore hend (j := j + 1) hlt (by omega)

variable {l : List Part} (hu : ∀ u, Unchanged l u (elem u)) (hT : .tStates ∉ l) (hR : .r ∉ l)
  (hk : ∀ u, Keeps u (elem u))

include hu in
/-- A repeat changes what its elements change, and T and R. -/
theorem unchanged_atElem (j : Nat) :
    Unchanged (l ++ [.tStates, .r]) (s.withBlockMove true) (s.atElem elem op j) := by
  induction j with
  | zero => exact .refl _ _
  | succ j ih => exact ih.trans ((hu (s.atElem elem op j)).append (unchanged_between _ op))

include hu hT hR hk in
/-- One delta and two refresh counts go with each element that goes on (R280, R568). -/
theorem atElem_counts (j : Nat) :
    (s.atElem elem op j).timing = s.timing
      ∧ (s.atElem elem op j).tStates = s.tStates + j * deltaOf s.timing.edAlt op
      ∧ RefreshGives (2 * j) s (s.atElem elem op j) := by
  induction j with
  | zero => exact ⟨rfl, by rw [Nat.zero_mul]; rfl, refreshGives_zero rfl⟩
  | succ j ih =>
    obtain ⟨ihTiming, ihT, ihR⟩ := ih
    obtain ⟨hT, hR, hTiming⟩ := (hu (s.atElem elem op j)).counts hT hR
    have hparams := (keeps_atElem (s := s) (op := op) hk j).params
    have hbump : RefreshGives 2 (s.atElem elem op j) (s.atElem elem op (j + 1)) := by
      rw [RefreshGives, ← hR, ← (hk _).params]
      exact refreshGives_bumpR ((elem (s.atElem elem op j)).chargeDelta _ op) 2
    refine ⟨hTiming.trans ihTiming, ?_, ihR.trans hparams hbump⟩
    calc (s.atElem elem op (j + 1)).tStates
        = (elem (s.atElem elem op j)).tStates + deltaOf (elem (s.atElem elem op j)).timing.edAlt op := rfl
      _ = s.tStates + (j + 1) * deltaOf s.timing.edAlt op := by rw [hT, hTiming, ihT, ihTiming]; ring

include hu hT hR hk in
/-- A repeat whose last element is number `n`, the elements counted from 0: the state behind it, T, R and what else
changes (43_block.md R280, R281; 70_reset_and_hazards.md R568). -/
theorem repeatBlock_last (hb : s.blockMove = false) {cont : State → Bool} {n : Nat} (hn : n < 65536)
    (hmore : ∀ i < n, cont (elem (s.atElem elem op i)) = true) (hend : cont (elem (s.atElem elem op n)) = false) :
    let t := s.repeatEnd elem op n
    s.repeatBlock elem cont op = t ∧ t.tStates = s.tStates + n * deltaOf s.timing.edAlt op
      ∧ RefreshGives (2 * n) s t ∧ Unchanged (l ++ [.tStates, .r]) s t := by
  intro t
  obtain ⟨-, htStates, hrefresh⟩ := atElem_counts (s := s) (op := op) hu hT hR hk n
  obtain ⟨hT, hR, -⟩ := (hu (s.atElem elem op n)).counts hT hR
  have hloop := blockLoop_atElem hmore hend (k := 65535) n.zero_le (by omega)
  have hunchanged : Unchanged (l ++ [.tStates, .r]) (s.withBlockMove true) (elem (s.atElem elem op n)) :=
    (unchanged_atElem hu n).trans ((hu _).mono (by simp +contextual))
  refine ⟨congrArg (State.withBlockMove · false) hloop, hT.trans htStates, ?_, hunchanged.blockMove hb⟩
  rw [RefreshGives, show t.r = _ from hR]
  exact hrefresh

end Repeat

end Sys2Proof.Machine
end

section
namespace Sys2Proof.Machine

open Sys2Proof.Machine.Claims

/-! ## LDIR and LDDR (43_block.md R284, R285) -/

theorem exec_of_blockCopyForm {i : Instr} {up : Bool} {op : Byte} (h : blockCopyForm i = some (up, op)) (s : State) :
    exec i s = .next (s.repeatBlock (·.ldElem up) contLoad op) := by
  unfold blockCopyForm at h
  split at h <;> cases h <;> rfl

section Copy

variable (s : State) (up : Bool) (op : Byte)

/-- A block copy behind `n` elements. -/
def State.atCopy (n : Nat) : State := s.atElem (·.ldElem up) op n

/-- The state behind a block copy of `n + 1` elements. -/
def State.copyEnd (n : Nat) : State := s.repeatEnd (·.ldElem up) op n

/-- The byte that element `n` of a block copy moves, the elements counted from 0. -/
def State.copyByte (n : Nat) : Byte := (s.atCopy up op n).byteAt (s.atCopy up op n).hl

variable (n : Nat)

theorem State.atCopy_hl : (s.atCopy up op n).hl = s.hl + stepOf up * BitVec.ofNat 16 n :=
  atElem_pointer State.hl (fun _ => rfl) (·.ldElem_hl up) n

theorem State.atCopy_de : (s.atCopy up op n).de = s.de + stepOf up * BitVec.ofNat 16 n :=
  atElem_pointer State.de (fun _ => rfl) (·.ldElem_de up) n

theorem State.atCopy_bc : (s.atCopy up op n).bc = s.bc - BitVec.ofNat 16 n :=
  atElem_counter State.bc (fun _ => rfl) (·.ldElem_bc up) n

theorem State.atCopy_succ_bc : (s.atCopy up op (n + 1)).bc = (s.atCopy up op n).bc - 1 :=
  (State.atElem_succ_bc _ _ _ _).trans (State.ldElem_bc _ up)

theorem State.keeps_atCopy : Keeps (s.withBlockMove true) (s.atCopy up op n) :=
  keeps_atElem (keeps_ldElem · up) n

theorem State.atCopy_params : (s.atCopy up op n).params = s.params := (s.keeps_atCopy up op n).params

/-- A and the flags that no element changes are as at the start. -/
theorem State.atCopy_kept :
    (s.atCopy up op n).a = s.a ∧ (s.atCopy up op n).f.s = s.f.s ∧ (s.atCopy up op n).f.z = s.f.z
      ∧ (s.atCopy up op n).f.c = s.f.c := by
  have ha (u : State) : (u.ldElem up).a = u.a := State.setFlags_a _ _ _
  have hs (u : State) : (u.ldElem up).f.s = u.f.s := by
    obtain ⟨-, hs, -⟩ := flagsGive_ldElem u up
    exact hs rfl
  have hz (u : State) : (u.ldElem up).f.z = u.f.z := by
    obtain ⟨-, -, hz, -⟩ := flagsGive_ldElem u up
    exact hz rfl
  have hc (u : State) : (u.ldElem up).f.c = u.f.c := by
    obtain ⟨-, -, -, -, -, -, -, -, hc⟩ := flagsGive_ldElem u up
    exact hc rfl
  exact ⟨atElem_const State.a (fun _ => rfl) ha n, atElem_const (·.f.s) (fun _ => rfl) hs n,
    atElem_const (·.f.z) (fun _ => rfl) hz n, atElem_const (·.f.c) (fun _ => rfl) hc n⟩

/-- Element `n` of a block copy is a read and a write (R282, R283). -/
theorem State.ldElem_atCopy_trace :
    ((s.atCopy up op n).ldElem up).trace
      = copyAccesses up s.hl s.de n (s.copyByte up op n) ++ (s.atCopy up op n).trace := by
  rw [State.ldElem_trace, copyAccesses, ← s.atCopy_hl up op, ← s.atCopy_de up op]
  rfl

theorem State.atCopy_trace :
    (s.atCopy up op n).trace = copyEvents up s.hl s.de ((List.range n).map (s.copyByte up op)) ++ s.trace :=
  atElem_trace rfl (copyEvents_append up s.hl s.de) (s.ldElem_atCopy_trace up op) n

/-- Element `n` stores the byte it has read. -/
theorem State.atCopy_succ_mem :
    (s.atCopy up op (n + 1)).mem = (s.atCopy up op n).storeByte (s.atCopy up op n).de (s.copyByte up op n) :=
  (State.atElem_succ_mem _ _ _ _).trans ((s.atCopy up op n).ldElem_mem up)

/-- In plain RAM the cells are those of the element-by-element copy. -/
theorem State.atCopy_read (hram : s.params.memModel = .ram) (hwf : Memory.wf s.mem = true) (a : Word) :
    Memory.read (s.atCopy up op n).mem a.toNat = copied up n s.hl s.de (fun b => Memory.read s.mem b.toNat) a := by
  induction n generalizing a with
  | zero => rfl
  | succ n ih =>
    have hram' : (s.atCopy up op n).params.memModel = .ram := by rw [State.atCopy_params, hram]
    rw [State.atCopy_succ_mem, State.storeByte_read hram' ((s.keeps_atCopy up op n).mem hwf), State.copyByte,
      State.byteAt_ram hram', ih, ih, State.atCopy_hl, State.atCopy_de, copied_succ]

/-- Under a collaborator no cell changes. -/
theorem State.atCopy_mem_collaborator (hc : s.params.memModel = .collaborator) : (s.atCopy up op n).mem = s.mem := by
  induction n with
  | zero => rfl
  | succ n ih => rw [State.atCopy_succ_mem, State.storeByte_collaborator (by rw [State.atCopy_params, hc]), ih]

/-- LDIR and LDDR run as many elements as BC says (43_block.md R281). -/
theorem exec_blockCopy {i : Instr} (h : blockCopyForm i = some (up, op)) (hb : s.blockMove = false) :
    ∃ n, copyCount s = n + 1 ∧ exec i s = .next (s.copyEnd up op n)
      ∧ (s.copyEnd up op n).tStates = s.tStates + n * deltaOf s.timing.edAlt op
      ∧ RefreshGives (2 * n) s (s.copyEnd up op n)
      ∧ Unchanged [.reg .b, .reg .c, .reg .d, .reg .e, .reg .h, .reg .l, .f, .draws, .tStates, .r, .mem, .trace] s
          (s.copyEnd up op n) := by
  have hle : countdown s.bc ≤ 65536 := countdown_le s.bc
  obtain ⟨n, hn⟩ := Nat.exists_eq_add_one.mpr (countdown_pos s.bc)
  have hcont (j : Nat) : contLoad ((s.atCopy up op j).ldElem up) = (s.bc - BitVec.ofNat 16 (j + 1) != 0) := by
    rw [contLoad, State.ldElem_bc, ← State.atCopy_succ_bc, State.atCopy_bc]
  obtain ⟨hexec, hT, hR, hu⟩ := repeatBlock_last (op := op) (cont := contLoad)
    (unchanged_ldElem · up) (by simp) (by simp) (keeps_ldElem · up) hb (n := n) (by omega)
    (fun j hj => (hcont j).trans (bne_iff_ne.mpr (sub_ofNat_ne_zero j.succ_pos (by omega))))
    ((hcont n).trans (by rw [← hn, sub_countdown]; rfl))
  exact ⟨n, hn, by rw [exec_of_blockCopyForm h, hexec, State.copyEnd], hT, hR, hu.mono (by simp)⟩

/-- The flags behind a block copy are those of its last element (R282, R283). -/
theorem flagsGive_copyEnd :
    FlagsGive Flags.undocF53
      ⟨s.f.s, s.f.z, bit (s.a + s.copyByte up op n) 1, false, bit (s.a + s.copyByte up op n) 3,
        (s.atCopy up op (n + 1)).bc != 0, false, s.f.c⟩ s (s.copyEnd up op n) := by
  have hflags := flagsGive_ldElem (s.atCopy up op n) up
  obtain ⟨ha, hs, hz, hc⟩ := s.atCopy_kept up op n
  rw [ha, hs, hz, hc, ← s.atCopy_succ_bc up op] at hflags
  exact hflags.of_eq (s.atCopy_params up op n).symm (State.repeatEnd_f _ _ _ _)

end Copy

theorem copyEvents_length (up : Bool) (src dst : Word) (vs : List Byte) :
    (copyEvents up src dst vs).length = 2 * vs.length := by
  induction vs generalizing src dst with
  | nil => rfl
  | cons v vs ih =>
    simp only [copyEvents, List.length_append, ih, List.length_cons, List.length_nil]
    omega

/-- Settles O56: the last element, and what the ones before it leave. -/
theorem blockCopyRegisters : Obligations.BlockCopyRegisters := by
  intro i s up op h hb m
  obtain ⟨n, hm, hexec, hT, hR, hu⟩ := exec_blockCopy s up op h hb
  replace hm : m = n + 1 := hm
  have hbc : (s.atCopy up op (n + 1)).bc = 0 := by
    rw [s.atCopy_bc, ← hm]
    exact sub_countdown s.bc
  have htrace : (s.copyEnd up op n).trace = _ := s.atCopy_trace up op (n + 1)
  have hflags := flagsGive_copyEnd s up op n
  rw [hbc] at hflags
  rw [hm]
  refine ⟨s.copyEnd up op n, s.copyByte up op n, hexec, hbc, s.atCopy_hl up op (n + 1), s.atCopy_de up op (n + 1),
    hT, hR, ?_, hflags, ?_, hu⟩
  · rw [htrace, List.range_succ, List.map_append, List.map_singleton, copyEvents_append]
    simp [copyAccesses]
  · rw [htrace, List.length_append, copyEvents_length, List.length_map, List.length_range, Nat.add_comm]

/-- Settles O57: the cells are those of `copied`, and the clauses for blocks that do or do not overlap are facts about
it. -/
theorem blockCopyMemory : Obligations.BlockCopyMemory := by
  intro i s up op h hb n src dst before
  obtain ⟨l, hn, hexec, -⟩ := exec_blockCopy s up op h hb
  replace hn : n = l + 1 := hn
  have hle : n ≤ 65536 := countdown_le s.bc
  have htrace : (s.copyEnd up op l).trace = _ := s.atCopy_trace up op (l + 1)
  have hread (hram : s.params.memModel = .ram) (hwf : Memory.wf s.mem = true) (a : Word) :
      Memory.read (s.copyEnd up op l).mem a.toNat = copied up n s.hl s.de before a :=
    hn ▸ s.atCopy_read up op (l + 1) hram hwf a
  refine ⟨s.copyEnd up op l, (List.range n).map (s.copyByte up op), hexec, by simp, hn ▸ htrace,
    fun hram hwf => ⟨hread hram hwf, ?_, ?_, ?_, ?_⟩, fun hc => ⟨s.atCopy_mem_collaborator up op (l + 1) hc, ?_⟩⟩
  · intro j v hv
    obtain ⟨-, rfl⟩ := getElem?_map_range hv
    rw [State.copyByte, State.byteAt_ram (by rw [State.atCopy_params, hram]), State.atCopy_hl]
    exact s.atCopy_read up op j hram hwf (src j)
  · intro a ha
    rw [hread hram hwf, copied_outside ha]
  · intro hdisjoint j hj
    rw [hread hram hwf, copied_destination hle hj]
    exact copied_outside fun k hk => (hdisjoint k j (by omega) hj).symm
  · intro hde j hj
    rw [hread hram hwf]
    show copied up n s.hl s.de before (s.de + _) = _
    rw [hde, copied_one_step_ahead hle hj]
  · intro j v hv
    obtain ⟨hj, rfl⟩ := getElem?_map_range hv
    rw [take_map_range _ hj.le, ← s.atCopy_trace up op j, State.copyByte,
      State.byteAt_collaborator (by rw [State.atCopy_params, hc]), State.atCopy_hl]

end Sys2Proof.Machine
end

section
namespace Sys2Proof.Machine

open Sys2Proof.Machine.Claims

/-! ## CPIR and CPDR (43_block.md R288, R289) -/

theorem exec_of_blockSearchForm {i : Instr} {up : Bool} {op : Byte} (h : blockSearchForm i = some (up, op))
    (s : State) : exec i s = .next (s.repeatBlock (·.cpElem up) contCompare op) := by
  unfold blockSearchForm at h
  split at h <;> cases h <;> rfl

section Search

variable (s : State) (up : Bool) (op : Byte)

/-- A block search behind `n` elements. -/
def State.atSearch (n : Nat) : State := s.atElem (·.cpElem up) op n

/-- The state behind a block search of `n + 1` elements. -/
def State.searchEnd (n : Nat) : State := s.repeatEnd (·.cpElem up) op n

/-- The byte that element `n` of a block search reads, the elements counted from 0. -/
def State.searchByte (n : Nat) : Byte := (s.atSearch up op n).byteAt (s.atSearch up op n).hl

variable (n : Nat)

theorem State.atSearch_hl : (s.atSearch up op n).hl = s.hl + stepOf up * BitVec.ofNat 16 n :=
  atElem_pointer State.hl (fun _ => rfl) (·.cpElem_hl up) n

theorem State.atSearch_bc : (s.atSearch up op n).bc = s.bc - BitVec.ofNat 16 n :=
  atElem_counter State.bc (fun _ => rfl) (·.cpElem_bc up) n

theorem State.atSearch_succ_bc : (s.atSearch up op (n + 1)).bc = (s.atSearch up op n).bc - 1 :=
  (State.atElem_succ_bc _ _ _ _).trans (State.cpElem_bc _ up)

theorem State.atSearch_params : (s.atSearch up op n).params = s.params :=
  (keeps_atElem (s := s) (op := op) (keeps_cpElem · up) n).params

/-- What no element changes is as at the start. -/
theorem State.atSearch_kept :
    (s.atSearch up op n).a = s.a ∧ (s.atSearch up op n).f.c = s.f.c ∧ (s.atSearch up op n).mem = s.mem := by
  have ha (u : State) : (u.cpElem up).a = u.a := State.setFlags_a _ _ _
  have hmem (u : State) : (u.cpElem up).mem = u.mem := State.setFlags_mem _ _ _
  have hc (u : State) : (u.cpElem up).f.c = u.f.c := by
    obtain ⟨-, -, -, -, -, -, -, -, hc⟩ := flagsGive_cpElem u up
    exact hc rfl
  exact ⟨atElem_const State.a (fun _ => rfl) ha n, atElem_const (·.f.c) (fun _ => rfl) hc n,
    atElem_const State.mem (fun _ => rfl) hmem n⟩

theorem State.atSearch_trace :
    (s.atSearch up op n).trace = searchEvents up s.hl ((List.range n).map (s.searchByte up op)) ++ s.trace := by
  refine atElem_trace rfl (searchEvents_append up s.hl) (fun j => ?_) n
  rw [State.cpElem_trace, searchAccesses, ← s.atSearch_hl up op]
  rfl

/-- In plain RAM the bytes of a block search are those of memory. -/
theorem State.searchByte_ram (h : s.params.memModel = .ram) :
    s.searchByte up op n = Memory.read s.mem (s.hl + stepOf up * BitVec.ofNat 16 n).toNat := by
  obtain ⟨-, -, hmem⟩ := s.atSearch_kept up op n
  rw [State.searchByte, State.byteAt_ram (by rw [State.atSearch_params, h]), hmem, State.atSearch_hl]

/-- Under a collaborator the bytes of a block search are its free answers (log 7). -/
theorem State.searchByte_collaborator (h : s.params.memModel = .collaborator) :
    s.searchByte up op n =
      Config.memAnswer (searchEvents up s.hl ((List.range n).map (s.searchByte up op)) ++ s.trace)
        (s.hl + stepOf up * BitVec.ofNat 16 n) := by
  rw [← s.atSearch_trace up op n, State.searchByte, State.byteAt_collaborator (by rw [State.atSearch_params, h]),
    State.atSearch_hl]

/-- A block search goes on behind element `n` where BC is not 0 and the byte does not match (R288, R289). -/
theorem contCompare_atSearch :
    contCompare ((s.atSearch up op n).cpElem up) = true
      ↔ s.bc - BitVec.ofNat 16 (n + 1) ≠ 0 ∧ s.searchByte up op n ≠ s.a := by
  obtain ⟨-, -, hz, -⟩ := flagsGive_cpElem (s.atSearch up op n) up
  obtain ⟨ha, -, -⟩ := s.atSearch_kept up op n
  rw [contCompare, State.cpElem_bc, ← State.atSearch_succ_bc, State.atSearch_bc, hz rfl, ha,
    ← State.searchByte]
  simp only [Bool.and_eq_true, bne_iff_ne, Bool.not_eq_true', beq_eq_false_iff_ne, ne_eq, sub_eq_zero,
    eq_comm (a := s.a)]

/-- The flags behind a block search are those of its last element (R286, R287). -/
theorem flagsGive_searchEnd :
    let v := s.searchByte up op n
    let u := s.a - v - (if (sub8 s.a v false).2.h then 1 else 0)
    FlagsGive Flags.undocF53
      ⟨bit (s.a - v) 7, v == s.a, bit u 1, (sub8 s.a v false).2.h, bit u 3, (s.atSearch up op (n + 1)).bc != 0, true,
        s.f.c⟩ s (s.searchEnd up op n) := by
  intro v u
  have hflags := flagsGive_cpElem (s.atSearch up op n) up
  obtain ⟨ha, hc, -⟩ := s.atSearch_kept up op n
  have hz : (v == s.a) = (s.a - v == 0) := by
    rw [Bool.eq_iff_iff, beq_iff_eq, beq_iff_eq, sub_eq_zero, eq_comm]
  rw [ha, hc, ← s.atSearch_succ_bc up op] at hflags
  rw [hz]
  exact hflags.of_eq (s.atSearch_params up op n).symm (State.repeatEnd_f _ _ _ _)

/-- CPIR and CPDR end in the first element that matches or leaves BC = 0 (43_block.md R281). -/
theorem exec_blockSearch {i : Instr} (h : blockSearchForm i = some (up, op)) (hb : s.blockMove = false) :
    ∃ n < 65536, exec i s = .next (s.searchEnd up op n)
      ∧ (∀ j < n, s.bc - BitVec.ofNat 16 (j + 1) ≠ 0 ∧ s.searchByte up op j ≠ s.a)
      ∧ (s.bc - BitVec.ofNat 16 (n + 1) = 0 ∨ s.searchByte up op n = s.a)
      ∧ (s.searchEnd up op n).tStates = s.tStates + n * deltaOf s.timing.edAlt op
      ∧ RefreshGives (2 * n) s (s.searchEnd up op n)
      ∧ Unchanged [.reg .b, .reg .c, .reg .h, .reg .l, .f, .draws, .tStates, .r, .trace] s (s.searchEnd up op n) := by
  have hle : countdown s.bc ≤ 65536 := countdown_le s.bc
  obtain ⟨m, hm⟩ := Nat.exists_eq_add_one.mpr (countdown_pos s.bc)
  have hstop : contCompare ((s.atSearch up op m).cpElem up) = false :=
    Bool.eq_false_iff.mpr fun hc => ((contCompare_atSearch s up op m).mp hc).1 (hm ▸ sub_countdown s.bc)
  have hfirst : ∃ n, contCompare ((s.atSearch up op n).cpElem up) = false := ⟨m, hstop⟩
  have hmore : ∀ j < Nat.find hfirst, contCompare ((s.atSearch up op j).cpElem up) = true := fun j hj =>
    Bool.not_eq_false _ ▸ Nat.find_min hfirst hj
  have hend := Nat.find_spec hfirst
  have hn : Nat.find hfirst < 65536 := by have := Nat.find_min' hfirst hstop; omega
  obtain ⟨hexec, hT, hR, hu⟩ := repeatBlock_last (op := op) (cont := contCompare) (unchanged_cpElem · up) (by simp)
    (by simp) (keeps_cpElem · up) hb hn hmore hend
  refine ⟨Nat.find hfirst, hn, by rw [exec_of_blockSearchForm h, hexec, State.searchEnd],
    fun j hj => (contCompare_atSearch s up op j).mp (hmore j hj), ?_, hT, hR, hu.mono (by simp)⟩
  rw [Bool.eq_false_iff, ne_eq, contCompare_atSearch, not_and_or, not_not, not_not] at hend
  exact hend

end Search

/-- Settles O58: the search ends in its first element that matches or leaves BC = 0. -/
theorem blockSearch : Obligations.BlockSearch := by
  intro i s up op h hb src
  obtain ⟨n, hn, hexec, hmore, hend, hT, hR, hu⟩ := exec_blockSearch s up op h hb
  have hbytes : (List.range n).map (s.searchByte up op) ++ [s.searchByte up op n]
      = (List.range (n + 1)).map (s.searchByte up op) := by
    rw [List.range_succ, List.map_append, List.map_singleton]
  have hbc := s.atSearch_bc up op (n + 1)
  refine ⟨s.searchEnd up op n, (List.range n).map (s.searchByte up op), s.searchByte up op n, hexec, ?_⟩
  rw [hbytes, List.length_map, List.length_range]
  refine ⟨hn, hbc, s.atSearch_hl up op (n + 1), hend.imp_left hbc.trans, ?_, ?_, s.atSearch_trace up op (n + 1),
    ?_, ?_, flagsGive_searchEnd s up op n, hT, hR, hu⟩
  · intro w hw
    obtain ⟨j, hj, rfl⟩ := List.mem_map.mp hw
    exact (hmore j (List.mem_range.mp hj)).2
  · intro j hj
    exact (hmore j (by omega)).1
  · intro hram j w hw
    obtain ⟨-, rfl⟩ := getElem?_map_range hw
    exact s.searchByte_ram up op j hram
  · intro hc j w hw
    obtain ⟨hj, rfl⟩ := getElem?_map_range hw
    rw [take_map_range _ (by omega)]
    exact s.searchByte_collaborator up op j hc

end Sys2Proof.Machine
end

section
namespace Sys2Proof.Machine

open Sys2Proof.Machine.Claims

/-! ## INIR, INDR, OTIR and OTDR (43_block.md R292, R293, R296, R298) -/

theorem exec_of_blockIoForm {i : Instr} {input up : Bool} {op : Byte} (h : blockIoForm i = some (input, up, op))
    (s : State) : exec i s = .next (s.repeatBlock (·.ioElem up input) contIo op) := by
  unfold blockIoForm at h
  split at h <;> cases h <;> rfl

section InputOutput

variable (s : State) (input up : Bool) (op : Byte)

/-- A block input or output behind `n` elements. -/
def State.atIo (n : Nat) : State := s.atElem (·.ioElem up input) op n

/-- The state behind a block input or output of `n + 1` elements. -/
def State.ioEnd (n : Nat) : State := s.repeatEnd (·.ioElem up input) op n

/-- The byte that element `n` of a block input or output moves, the elements counted from 0. -/
def State.atIoByte (n : Nat) : Byte := (s.atIo input up op n).ioByte input

variable (n : Nat)

theorem State.atIo_hl : (s.atIo input up op n).hl = s.hl + stepOf up * BitVec.ofNat 16 n :=
  atElem_pointer State.hl (fun _ => rfl) (·.ioElem_hl up input) n

theorem State.atIo_b : (s.atIo input up op n).b = s.b - BitVec.ofNat 8 n :=
  atElem_counter State.b (fun _ => rfl) (·.ioElem_b up input) n

theorem State.atIo_succ_b : (s.atIo input up op (n + 1)).b = (s.atIo input up op n).b - 1 :=
  (State.atElem_succ_b _ _ _ _).trans (State.ioElem_b _ up input)

theorem State.atIo_c : (s.atIo input up op n).c = s.c :=
  atElem_const State.c (fun _ => rfl) (·.ioElem_c up input) n

theorem State.atIo_bc : (s.atIo input up op n).bc = Word.ofBytes (s.b - BitVec.ofNat 8 n) s.c := by
  rw [State.bc, State.atIo_b, State.atIo_c]

theorem State.keeps_atIo : Keeps (s.withBlockMove true) (s.atIo input up op n) :=
  keeps_atElem (keeps_ioElem · up input) n

theorem State.atIo_params : (s.atIo input up op n).params = s.params := (s.keeps_atIo input up op n).params

/-- An input takes an answer of the list for each element (R290, R291; log 6). -/
theorem State.atIo_ioIn : (s.atIo input up op n).ioIn = if input then s.ioIn.drop n else s.ioIn := by
  induction n with
  | zero => cases input <;> rfl
  | succ n ih =>
    rw [State.atIo, State.atElem_succ_ioIn, State.ioElem_ioIn, ← State.atIo, ih]
    cases input
    · rfl
    · exact List.tail_drop

theorem State.atIo_trace :
    (s.atIo input up op n).trace
      = ioEvents input up s.c s.b s.hl ((List.range n).map (s.atIoByte input up op)) ++ s.trace := by
  refine atElem_trace rfl (ioEvents_append input up s.c s.b s.hl) (fun j => ?_) n
  rw [State.ioElem_trace, ioAccesses, ← s.atIo_hl input up op, ← s.atIo_bc input up op, ← s.atIo_b input up op,
    ← s.atIo_c input up op j]
  rfl

/-- Element `n` of an input stores its answer, an output stores nothing. -/
theorem State.atIo_succ_mem :
    (s.atIo input up op (n + 1)).mem =
      if input then (s.atIo input up op n).storeByte (s.atIo input up op n).hl (s.atIoByte input up op n)
      else (s.atIo input up op n).mem :=
  (State.atElem_succ_mem _ _ _ _).trans (State.ioElem_mem _ up input)

/-- Under a collaborator no cell changes. -/
theorem State.atIo_mem_collaborator (hc : s.params.memModel = .collaborator) : (s.atIo input up op n).mem = s.mem := by
  induction n with
  | zero => rfl
  | succ n ih =>
    rw [State.atIo_succ_mem, State.storeByte_collaborator (by rw [State.atIo_params, hc]), ih, ite_self]

/-- An output changes no cell. -/
theorem State.atIo_mem_output : (s.atIo false up op n).mem = s.mem := by
  induction n with
  | zero => rfl
  | succ n ih => rw [State.atIo_succ_mem, ih]; rfl

/-- An input stores its answers one after another. -/
theorem State.atIo_read_succ (hram : s.params.memModel = .ram) (hwf : Memory.wf s.mem = true) (a : Word) :
    Memory.read (s.atIo true up op (n + 1)).mem a.toNat =
      if a = s.hl + stepOf up * BitVec.ofNat 16 n then s.atIoByte true up op n
      else Memory.read (s.atIo true up op n).mem a.toNat := by
  rw [State.atIo_succ_mem, if_pos rfl,
    State.storeByte_read (by rw [State.atIo_params, hram]) ((s.keeps_atIo true up op n).mem hwf), State.atIo_hl]

/-- The answers of an input: those of the list in order, then free ones (log 6). -/
theorem State.atIoByte_input :
    s.atIoByte true up op n = (s.ioIn.drop n).headD
      (Config.ioAnswer (ioEvents true up s.c s.b s.hl ((List.range n).map (s.atIoByte true up op)) ++ s.trace)
        (Word.ofBytes (s.b - BitVec.ofNat 8 n) s.c)) := by
  have hioIn := s.atIo_ioIn true up op n
  rw [if_pos rfl] at hioIn
  rw [← hioIn, ← s.atIo_trace true up op n, ← s.atIo_bc true up op n]
  rfl

/-- In plain RAM the bytes of an output are those of memory. -/
theorem State.atIoByte_output_ram (h : s.params.memModel = .ram) :
    s.atIoByte false up op n = Memory.read s.mem (s.hl + stepOf up * BitVec.ofNat 16 n).toNat := by
  rw [← s.atIo_mem_output up op n, ← s.atIo_hl false up op n]
  exact State.byteAt_ram (by rw [State.atIo_params, h]) _

/-- Under a collaborator the bytes of an output are its free answers (log 7). -/
theorem State.atIoByte_output_collaborator (h : s.params.memModel = .collaborator) :
    s.atIoByte false up op n =
      Config.memAnswer (ioEvents false up s.c s.b s.hl ((List.range n).map (s.atIoByte false up op)) ++ s.trace)
        (s.hl + stepOf up * BitVec.ofNat 16 n) := by
  rw [← s.atIo_trace false up op n, ← s.atIo_hl false up op n]
  exact State.byteAt_collaborator (by rw [State.atIo_params, h]) _

/-- The flags behind a block input or output are those of its last element (R297). -/
theorem flagsGive_ioEnd (hb : (s.atIo input up op (n + 1)).b = 0) :
    let v := s.atIoByte input up op n
    let k := v.toNat + (if input then (if up then s.c + 1 else s.c - 1) else Word.lo (s.ioEnd input up op n).hl).toNat
    FlagsGive Flags.undocBlockIo ⟨false, true, false, decide (255 < k), false, false, bit v 7, decide (255 < k)⟩ s
      (s.ioEnd input up op n) := by
  intro v k
  have hflags := flagsGive_ioElem (s.atIo input up op n) up input
  have hhl : (s.ioEnd input up op n).hl = (s.atIo input up op n).hl + stepOf up :=
    (State.repeatEnd_hl _ _ _ _).trans (State.ioElem_hl _ up input)
  have hsum : (s.atIo input up op n).ioSum up input = k := by
    rw [State.ioSum, State.atIo_c, ← hhl]
    rfl
  rw [hsum, ← s.atIo_succ_b input up op, hb] at hflags
  exact hflags.of_eq (s.atIo_params input up op n).symm (State.repeatEnd_f _ _ _ _)

/-- A block input or output runs as many elements as B says (43_block.md R281). -/
theorem exec_blockIo {i : Instr} (h : blockIoForm i = some (input, up, op)) (hb : s.blockMove = false) :
    ∃ n, ioCount s = n + 1 ∧ exec i s = .next (s.ioEnd input up op n)
      ∧ (s.ioEnd input up op n).tStates = s.tStates + n * deltaOf s.timing.edAlt op
      ∧ RefreshGives (2 * n) s (s.ioEnd input up op n)
      ∧ Unchanged
          ((if input then [.mem, .ioIn] else []) ++ [.reg .b, .reg .h, .reg .l, .f, .draws, .tStates, .r, .trace]) s
          (s.ioEnd input up op n) := by
  have hle : countdown s.b ≤ 256 := countdown_le s.b
  obtain ⟨n, hn⟩ := Nat.exists_eq_add_one.mpr (countdown_pos s.b)
  have hcont (j : Nat) : contIo ((s.atIo input up op j).ioElem up input) = (s.b - BitVec.ofNat 8 (j + 1) != 0) := by
    rw [contIo, State.ioElem_b, ← State.atIo_succ_b, State.atIo_b]
  obtain ⟨hexec, hT, hR, hu⟩ := repeatBlock_last (op := op) (cont := contIo)
    (unchanged_ioElem · up input) (by cases input <;> simp) (by cases input <;> simp) (keeps_ioElem · up input) hb
    (n := n) (by omega)
    (fun j hj => (hcont j).trans (bne_iff_ne.mpr (sub_ofNat_ne_zero j.succ_pos (by omega))))
    ((hcont n).trans (by rw [← hn, sub_countdown]; rfl))
  exact ⟨n, hn, by rw [exec_of_blockIoForm h, hexec, State.ioEnd], hT, hR,
    hu.mono (by cases input <;> simp)⟩

end InputOutput

/-- Settles O59: the elements, their bytes and what they leave. -/
theorem blockInputOutput : Obligations.BlockInputOutput := by
  intro i s input up op h hb m adr done
  obtain ⟨n, hm, hexec, hT, hR, hu⟩ := exec_blockIo s input up op h hb
  replace hm : m = n + 1 := hm
  have hle : m ≤ 256 := countdown_le s.b
  have hb0 : (s.atIo input up op (n + 1)).b = 0 := by
    rw [s.atIo_b, ← hm]
    exact sub_countdown s.b
  rw [hm] at hle ⊢
  refine ⟨s.ioEnd input up op n, (List.range (n + 1)).map (s.atIoByte input up op), s.atIoByte input up op n, hexec,
    hb0, s.atIo_hl input up op (n + 1), by simp, by simp [List.range_succ], s.atIo_trace input up op (n + 1), ?_, ?_,
    s.atIo_mem_collaborator input up op (n + 1), s.atIo_ioIn input up op (n + 1),
    flagsGive_ioEnd s input up op n hb0, hT, hR, hu⟩
  · intro j w hw
    obtain ⟨hj, rfl⟩ := getElem?_map_range hw
    rw [take_map_range _ hj.le]
    refine ⟨?_, ?_, ?_⟩
    · rintro rfl
      exact s.atIoByte_input up op j
    · rintro rfl hram
      exact s.atIoByte_output_ram up op j hram
    · rintro rfl hc
      exact s.atIoByte_output_collaborator up op j hc
  · rintro rfl hram hwf
    constructor
    · intro j w hw
      obtain ⟨hj, rfl⟩ := getElem?_map_range hw
      exact cells_adr (cells := fun j a => Memory.read (s.atIo true up op j).mem a.toNat)
        (s.atIo_read_succ up op · hram hwf) (fun _ hj _ hk => address_injective (by omega) (by omega)) hj
    · intro a ha
      exact cells_of_ne (cells := fun j a => Memory.read (s.atIo true up op j).mem a.toNat)
        (s.atIo_read_succ up op · hram hwf) ha

end Sys2Proof.Machine
end

section
namespace Sys2Proof.Machine

open Sys2Proof.Machine.Claims

/-! ## The accumulator group (44_alu8.md R320 to R328) -/

theorem Claims.Source.read_a (s : State) (src : Source) : (src.read s).a = s.a := by
  cases src <;> rfl

/-- The accumulator group reads its operand, then operates on A and F (R320 to R328). -/
theorem exec_of_aluForm {i : Instr} {op : AluOp} {src : Source} (h : aluForm i = some (op, src)) (s : State) :
    exec i s = .next ((src.read s).accumulate op (src.value s)) := by
  unfold aluForm at h
  split at h <;> cases h <;> rfl

/-- A and F take the result and the flags of the operation on the A and the F before the read. -/
theorem accumulate_read_a_f (s : State) (op : AluOp) (src : Source) (v : Byte) :
    (((src.read s).accumulate op v).a, ((src.read s).accumulate op v).f) = alu8 op s.a v s.f := by
  rw [← src.read_a s, ← src.read_f s]
  rfl

/-- An operation of the group changes A and F alone. -/
theorem unchanged_accumulate (s : State) (op : AluOp) (v : Byte) : Unchanged [.reg .a, .f] s (s.accumulate op v) :=
  unchanged_a_f s _ _

/-- Settles O40: the operand is read, then the operation is done; CP is the one whose result is A itself. -/
theorem accumulatorGroup : Obligations.AccumulatorGroup := by
  intro i s op src h
  have hres := accumulate_read_a_f s op src (src.value s)
  refine ⟨_, exec_of_aluForm h s, ?_, src.read_trace s,
    ((src.unchanged_read s).append (unchanged_accumulate _ op _)).mono (by simp)⟩
  cases op with
  | cp => exact Prod.mk.inj hres
  | _ => exact hres

/-! ## Read, modify, write (44_alu8.md R329 to R336, 46_rotate_bit.md R384, R396) -/

/-- A write of F leaves what every place holds. -/
@[simp] theorem Claims.Place.get_setFlags (s : State) (m f : Flags) (p : Place) : p.get (s.setFlags m f) = p.get s := by
  cases p with
  | reg r => exact s.setFlags_getReg m f r
  | half x k => cases k <;> simp [get, State.getHalf]
  | vector => exact s.setFlags_i m f
  | refresh => exact s.setFlags_r m f

/-- A destination that has received its byte still holds it behind a write of F. -/
theorem Claims.Target.Receives.setFlags {s t : State} {v : Byte} {tgt : Target} (h : tgt.Receives s t v)
    (m f : Flags) : tgt.Receives s (t.setFlags m f) v := by
  cases tgt with
  | place p => simpa [Receives] using h
  | mem a copy => simpa [Receives, StoresByte] using h

/-- The parameters are in no part. -/
theorem Unchanged.params {l : List Part} {s t : State} (h : Unchanged l s t) : t.params = s.params := by
  obtain ⟨-, -, -, -, -, -, -, -, -, -, -, -, -, -, -, -, -, -, -, -, -, -, -, params⟩ := h
  exact params

/-- Modifying a destination: it is written with the result of an operation on its byte and F, then F is written, its F5
and F3 being marked bits (40_alu_flags.md R168, R169, R174). -/
def Claims.Target.modify (s : State) (g : Byte → Flags → Byte × Flags) (tgt : Target) : State :=
  (tgt.put s (g (tgt.value s) s.f).1).setFlags Flags.undocF53 (g (tgt.value s) s.f).2

section Modify

variable (s : State) (g : Byte → Flags → Byte × Flags) (tgt : Target)

/-- The destination receives the result. -/
theorem Claims.Target.receives_modify : tgt.Receives s (tgt.modify s g) (g (tgt.value s) s.f).1 :=
  (tgt.receives_put s _).setFlags _ _

/-- F takes the flags of the result. -/
theorem Claims.Target.flagsGive_modify : FlagsGive Flags.undocF53 (g (tgt.value s) s.f).2 s (tgt.modify s g) :=
  flagsGive_setFlags (tgt.unchanged_put s _).params _ _

/-- The parts of the destination change, F, and the draws that the marked bits take. -/
theorem Claims.Target.unchanged_modify : Unchanged (.f :: .draws :: tgt.parts) s (tgt.modify s g) :=
  ((tgt.unchanged_put s _).append (unchanged_setFlags _ _ _)).mono fun _ =>
    List.perm_append_comm.mem_iff.mp

end Modify

/-! ## INC and DEC of a byte (40_alu_flags.md R168, R169) -/

/-- `Inc8` (true) and `Dec8` (false), as `incDecForm` names them (R168, R169). -/
def incDec8 (up : Bool) : Byte → Flags → Byte × Flags := if up then inc8 else dec8

/-- The low nibble of a byte, as the flag rules and the primitives compare it. -/
theorem and_0x0F_beq (v k : Byte) : (v &&& 0x0F == k) = (v.toNat % 16 == k.toNat) := by
  rw [Bool.eq_iff_iff, beq_iff_eq, beq_iff_eq, ← BitVec.toNat_inj, toNat_and_0x0F]

/-- One more or one less, and the flags as their rules state them (R168, R169). -/
theorem incDec8_eq (up : Bool) (v : Byte) (f : Flags) :
    incDec8 up v f =
      let res : Byte := if up then v + 1 else v - 1
      (res, ⟨bit res 7, res == 0, bit res 5, if up then v &&& 0x0F == 0x0F else v &&& 0x0F == 0x00, bit res 3,
        if up then v == 0x7F else v == 0x80, !up, f.c⟩) := by
  rw [and_0x0F_beq, and_0x0F_beq]
  cases up <;> rfl

/-- INC and DEC modify their destination (44_alu8.md R329 to R336). -/
theorem exec_of_incDecForm {i : Instr} {up : Bool} {tgt : Target} (h : incDecForm i = some (up, tgt)) (s : State) :
    exec i s = .next (tgt.modify s (incDec8 up)) := by
  unfold incDecForm at h
  split at h <;> cases h <;> rfl

/-- Settles O41: the destination is modified by `Inc8` or `Dec8`. -/
theorem incrementDecrement : Obligations.IncrementDecrement := by
  intro i s up tgt h v res
  have hreceives := tgt.receives_modify s (incDec8 up)
  have hflags := tgt.flagsGive_modify s (incDec8 up)
  rw [incDec8_eq] at hreceives hflags
  exact ⟨_, exec_of_incDecForm h s, hreceives, hflags, tgt.unchanged_modify s (incDec8 up)⟩

end Sys2Proof.Machine
end

section
namespace Sys2Proof.Machine

open Sys2Proof.Machine.Claims

/-! ## What the 16-bit operations leave (40_alu_flags.md R170 to R172) -/

/-- The sum modulo 2^16. -/
theorem add16_fst (a b : Word) (f : Flags) : (add16 a b f).1 = a + b :=
  (BitVec.add_def (x := a) (y := b)).symm

/-- The carry as a word. -/
theorem toNat_carry (cin : Bool) : (if cin then 1 else 0 : Word).toNat = cin.toNat := by
  cases cin <;> rfl

/-- The sum with the carry modulo 2^16. -/
theorem adc16_fst (a b : Word) (cin : Bool) : (adc16 a b cin).1 = a + b + (if cin then 1 else 0) := by
  obtain ⟨-, ⟨hres, -⟩, -⟩ := wordArithmeticFlags a b .zero cin
  apply BitVec.eq_of_toNat_eq
  rw [hres, BitVec.toNat_add, BitVec.toNat_add, toNat_carry, Nat.mod_add_mod]

/-- The difference less the borrow modulo 2^16. -/
theorem sbc16_fst (a b : Word) (cin : Bool) : (sbc16 a b cin).1 = a - b - (if cin then 1 else 0) := by
  obtain ⟨-, -, ⟨hres, -⟩⟩ := wordArithmeticFlags a b .zero cin
  have hcin := cin.toNat_le
  apply BitVec.eq_of_toNat_eq
  rw [BitVec.toNat_sub, BitVec.toNat_sub, toNat_carry]
  omega

/-! ## The 16-bit additions and subtractions (45_alu16.md R360 to R363) -/

/-- Writing a word place with a result and F with its flags, whose F5 and F3 are marked bits (R170 to R172). -/
def Claims.WPlace.putResult (s : State) (x : Word × Flags) (p : WPlace) : State :=
  (p.put s x.1).setFlags Flags.undocF53 x.2

/-- No word place lies in F or in the draws. -/
theorem Claims.WPlace.disjoint_f_draws (q : WPlace) : q.parts.Disjoint [.f, .draws] := by
  rcases q with q | q <;> cases q <;> simp [parts]

section PutResult

variable (s : State) (x : Word × Flags) (p : WPlace)

/-- The place holds the result. -/
theorem Claims.WPlace.get_putResult_same : p.get (p.putResult s x) = x.1 :=
  (get_of_unchanged (unchanged_setFlags _ _ _) p.disjoint_f_draws).trans (p.get_put_same s x.1)

/-- Every other word place holds what it held. -/
theorem Claims.WPlace.get_putResult_other {p q : WPlace} (hq : q ≠ p) : q.get (p.putResult s x) = q.get s :=
  (get_of_unchanged (unchanged_setFlags _ _ _) q.disjoint_f_draws).trans
    (get_of_unchanged (p.unchanged_put s x.1) (disjoint_parts hq))

/-- F takes the flags of the result. -/
theorem Claims.WPlace.flagsGive_putResult : FlagsGive Flags.undocF53 x.2 s (p.putResult s x) :=
  flagsGive_setFlags (p.unchanged_put s x.1).params _ _

/-- The parts of the place change, F, and the draws that the marked bits take. -/
theorem Claims.WPlace.unchanged_putResult : Unchanged (p.parts ++ [.f, .draws]) s (p.putResult s x) :=
  (p.unchanged_put s x.1).append (unchanged_setFlags _ _ _)

end PutResult

/-- An addition without carry writes its place with what `Add16` gives of the old value and the operand (R360, R361). -/
theorem exec_of_add16Form {i : Instr} {p : WPlace} {v : State → Word} (h : add16Form i = some (p, v)) (s : State) :
    exec i s = .next (p.putResult s (add16 (p.get s) (v s) s.f)) := by
  unfold add16Form at h
  split at h <;> cases h <;> rfl

/-- Settles O44: the place is written with the result of the primitive, and F with its flags. -/
theorem wordArithmetic : Obligations.WordArithmetic := by
  refine ⟨fun i s p v h => ?add, fun s p => ⟨?adc, ?sbc⟩⟩
  case add =>
    exact ⟨_, exec_of_add16Form h s, (p.get_putResult_same s _).trans (add16_fst _ _ _), p.flagsGive_putResult s _,
      fun _ hq => WPlace.get_putResult_other s _ hq,
      (p.unchanged_putResult s _).mono fun _ => List.perm_append_comm.mem_iff.mp⟩
  case adc =>
    exact ⟨_, rfl, (WPlace.get_putResult_same s _ (.rp .hl)).trans (adc16_fst _ _ _),
      WPlace.flagsGive_putResult s _ (.rp .hl), WPlace.unchanged_putResult s _ (.rp .hl)⟩
  case sbc =>
    exact ⟨_, rfl, (WPlace.get_putResult_same s _ (.rp .hl)).trans (sbc16_fst _ _ _),
      WPlace.flagsGive_putResult s _ (.rp .hl), WPlace.unchanged_putResult s _ (.rp .hl)⟩

end Sys2Proof.Machine
end

section
namespace Sys2Proof.Machine

open Sys2Proof.Machine.Claims

/-! ## The shifts and the rotates of A (46_rotate_bit.md R380 to R392, R396) -/

/-- A shift modifies its destination (R384 to R392, R396). -/
theorem exec_of_shiftForm {i : Instr} {k : Rot} {tgt : Target} (h : shiftForm i = some (k, tgt)) (s : State) :
    exec i s = .next (tgt.modify s (shiftByte k)) := by
  unfold shiftForm at h
  split at h <;> cases h <;> rfl

/-- A rotate of A (R380 to R383). -/
theorem exec_of_rotateAForm {i : Instr} {k : Rot} (h : rotateAForm i = some k) (s : State) :
    exec i s = .next (s.rotateA k) := by
  unfold rotateAForm at h
  split at h <;> cases h <;> rfl

/-- F takes the flags of R175, F5 and F3 being marked bits. -/
theorem flagsGive_rotateA (s : State) (k : Rot) :
    FlagsGive Flags.undocF53 (rotAFlags (shift k s.a s.f.c).1 (shift k s.a s.f.c).2 s.f) s (s.rotateA k) :=
  flagsGive_setFlags (t := { s with a := (shift k s.a s.f.c).1 }) rfl _ _

/-- A rotate of A changes A and F alone, and takes a draw for the marked bits. -/
theorem unchanged_rotateA (s : State) (k : Rot) : Unchanged [.reg .a, .f, .draws] s (s.rotateA k) :=
  (unchanged_setReg s .a _).append (unchanged_setFlags _ _ _)

/-- Settles O46: the destination is modified by the shift, or A by the rotate. -/
theorem shiftsAndRotates : Obligations.ShiftsAndRotates := by
  refine ⟨fun i s k tgt h => ?shift, fun i s k h => ?rotateA⟩
  case shift =>
    exact ⟨_, exec_of_shiftForm h s, tgt.receives_modify s (shiftByte k), tgt.flagsGive_modify s (shiftByte k),
      tgt.unchanged_modify s (shiftByte k)⟩
  case rotateA =>
    exact ⟨_, exec_of_rotateAForm h s, State.setFlags_a _ _ _, flagsGive_rotateA s k, unchanged_rotateA s k⟩

/-! ## RLD and RRD (46_rotate_bit.md R397, R398) -/

section DigitRotate

variable (s : State) (mem a : Byte)

/-- A digit rotate stores its byte at (HL). -/
theorem storesByte_rotateDigits : StoresByte s.hl mem s (s.rotateDigits mem a) := by
  have hstore : StoresByte s.hl mem s ((s.read8 s.hl).write8 s.hl mem) := storesByte_write8 rfl rfl s.hl mem
  simpa [StoresByte, State.rotateDigits] using hstore

/-- F takes the flags of the new A with its parity, C is kept, F5 and F3 are marked bits. -/
theorem flagsGive_rotateDigits :
    FlagsGive Flags.undocF53 (valueFlags a (parity a) s.f) s (s.rotateDigits mem a) :=
  flagsGive_setFlags (t := { (s.read8 s.hl).write8 s.hl mem with a := a }) rfl _ _

/-- A digit rotate changes A, F, memory and the trace alone, and takes a draw for the marked bits. -/
theorem unchanged_rotateDigits : Unchanged [.reg .a, .f, .draws, .mem, .trace] s (s.rotateDigits mem a) :=
  (((Target.unchanged_put s mem (.mem (·.hl) none)).append (unchanged_setReg _ .a a)).append
    (unchanged_setFlags _ _ _)).mono (by simp [Target.parts])

/-- What a digit rotate that writes `mem` to (HL) and `a` to A leaves, in the words of R397 and R398. -/
theorem rotateDigits_gives :
    (s.rotateDigits mem a).a = a
    ∧ StoresByte s.hl mem s (s.rotateDigits mem a)
    ∧ (s.rotateDigits mem a).trace = .write8 s.hl mem :: .read8 s.hl (s.byteAt s.hl) :: s.trace
    ∧ FlagsGive Flags.undocF53 (valueFlags (s.rotateDigits mem a).a (parity (s.rotateDigits mem a).a) s.f) s
        (s.rotateDigits mem a)
    ∧ Unchanged [.reg .a, .f, .draws, .mem, .trace] s (s.rotateDigits mem a) := by
  have ha : (s.rotateDigits mem a).a = a := State.setFlags_a _ _ _
  refine ⟨ha, storesByte_rotateDigits s mem a, State.setFlags_trace _ _ _, ?_, unchanged_rotateDigits s mem a⟩
  rw [ha]
  exact flagsGive_rotateDigits s mem a

end DigitRotate

/-- Shifted up by a digit, a byte loses its high digit. -/
theorem and_0x0F_shiftLeft_four (v : Byte) : (v &&& 0x0F) <<< 4 = v <<< 4 := by
  apply BitVec.eq_of_toNat_eq
  rw [BitVec.toNat_shiftLeft, BitVec.toNat_shiftLeft, toNat_and_0x0F, Nat.shiftLeft_eq, Nat.shiftLeft_eq]
  omega

/-- Settles O49: RLD and RRD are digit rotates; the digit that RRD puts on top is the low digit of A. -/
theorem digitRotates : Obligations.DigitRotates := by
  refine fun s => ⟨⟨_, rfl, rotateDigits_gives s _ _⟩, ?rrd⟩
  case rrd =>
    rw [and_0x0F_shiftLeft_four]
    exact ⟨_, rfl, rotateDigits_gives s _ _⟩

end Sys2Proof.Machine
end

section
namespace Sys2Proof.Machine

open Sys2Proof.Machine.Claims

/-! ## Conditions and their opcodes (30_encoding.md R120, 47_control.md R420) -/

/-- The test of a condition is the test of its flag. -/
theorem Flags.cond_eq_condHolds (f : Flags) (cc : Cond) : f.cond cc = condHolds f cc := by
  cases cc <;> simp [cond, condHolds]

/-- The test of JR cc is that of the condition its field names. -/
theorem Flags.jrCond_eq_condHolds (f : Flags) (jc : JrCond) : f.jrCond jc = condHolds f (jrCondOf jc) := by
  rw [← f.cond_eq_condHolds]
  cases jc <;> rfl

/-- The opcode of a conditional JP, CALL or RET. -/
theorem opXYZ_three_eq (y z : Nat) : opXYZ 3 y z = BitVec.ofNat 8 (0xC0 + z + 8 * y) := by
  unfold opXYZ
  congr 1
  omega

/-- The opcode of JR cc. -/
theorem opXYZ_jrCond (jc : JrCond) : opXYZ 0 jc.field 0 = BitVec.ofNat 8 (0x20 + 8 * (jrCondOf jc).field) := by
  cases jc <;> rfl

/-! ## What a transfer of control changes (47_control.md R420, R428, R430) -/

/-- A write of PC. -/
theorem unchanged_setPc (s : State) (target : Word) : Unchanged [.pc] s { s with pc := target } :=
  ⟨fun q _ => by cases q <;> rfl, by simp⟩

/-- A write of IFF1. -/
theorem unchanged_setIff1 (s : State) (v : Bool) : Unchanged [.iff1] s { s with iff1 := v } :=
  ⟨fun q _ => by cases q <;> rfl, by simp⟩

/-- A branch writes PC and charges its delta. -/
theorem unchanged_branch (s : State) (target : Word) (op : Byte) : Unchanged [.pc, .tStates] s (s.branch target op) :=
  (unchanged_setPc s target).append (unchanged_charge _ _)

/-- A branch charges the delta of its opcode (R568). -/
theorem State.branch_tStates (s : State) (target : Word) (op : Byte) :
    (s.branch target op).tStates = s.tStates + deltaOf s.timing.baseAlt op := rfl

/-- A call pushes PC. -/
theorem storesWord_call (s : State) (target : Word) : StoresWord (s.sp - 2) s.pc s (s.call target) :=
  storesWord_write16 (t := { s with sp := s.sp - 2 }) rfl rfl _ s.pc

/-- A call pushes, then writes PC. -/
theorem unchanged_call (s : State) (target : Word) : Unchanged [.pc, .sp, .mem, .trace] s (s.call target) :=
  ((unchanged_push16 s s.pc).append (unchanged_setPc _ target)).mono (by simp)

/-- A return pops, then writes PC. -/
theorem unchanged_ret (s : State) : Unchanged [.pc, .sp, .trace] s s.ret :=
  ((unchanged_afterPop s).append (unchanged_setPc _ s.popValue)).mono (by simp)

/-! ## Jumps and DJNZ (47_control.md R420 to R427) -/

/-- An unconditional jump writes PC (R421, R423, R426, R427). -/
theorem exec_of_jumpForm {i : Instr} {target : State → Word} (h : jumpForm i = some target) (s : State) :
    exec i s = .next { s with pc := target s } := by
  unfold jumpForm at h
  split at h <;> cases h <;> rfl

/-- A conditional jump branches where its condition holds (R422, R424). -/
theorem exec_of_condJumpForm {i : Instr} {cc : Cond} {target : State → Word} {op : Byte}
    (h : condJumpForm i = some (cc, target, op)) (s : State) :
    exec i s = .next (if condHolds s.f cc then s.branch (target s) op else s) := by
  unfold condJumpForm at h
  split at h <;> cases h
  · rw [← s.f.jrCond_eq_condHolds, ← opXYZ_jrCond]
    rfl
  · rw [← s.f.cond_eq_condHolds, ← opXYZ_three_eq _ 2]
    rfl

/-- DJNZ decrements B and branches unless B is then 0 (R425). -/
theorem exec_djnz (s : State) (e : Byte) :
    exec (.djnz e) s = .next (if s.b - 1 = 0 then s.setReg .b (s.b - 1)
      else (s.setReg .b (s.b - 1)).branch (s.relTarget e) 0x10) := by
  have hexec : exec (.djnz e) s = .next (if s.b - 1 != 0 then (s.setReg .b (s.b - 1)).branch (s.relTarget e) 0x10
      else s.setReg .b (s.b - 1)) := rfl
  simp only [hexec, bne_iff_ne, ne_eq, ite_not]

/-- Settles O50: a jump is a write of PC, or a branch under a test; DJNZ tests the B it has decremented. -/
theorem jumps : Obligations.Jumps := by
  refine ⟨fun i s target h => ?jump, fun i s cc target op h => ?condJump, fun s e => ?djnz⟩
  case jump => exact ⟨_, exec_of_jumpForm h s, rfl, unchanged_setPc s _⟩
  case condJump =>
    refine ⟨_, exec_of_condJumpForm h s, ?_⟩
    cases condHolds s.f cc with
    | true => exact ⟨unchanged_branch s _ op, rfl, s.branch_tStates _ op⟩
    | false => exact ⟨.refl _ s, rfl, rfl⟩
  case djnz =>
    have hdec := unchanged_setReg s .b (s.b - 1)
    refine ⟨_, exec_djnz s e, ?_⟩
    by_cases hb : s.b - 1 = 0
    · rw [if_pos hb]
      exact ⟨rfl, hdec.mono (by simp), (if_pos hb).symm, congrArg (s.tStates + ·) (if_pos (t := 0) hb).symm⟩
    · rw [if_neg hb]
      exact ⟨rfl, hdec.append (unchanged_branch _ _ _), (if_neg hb).symm,
        congrArg (s.tStates + ·) (if_neg hb).symm⟩

/-! ## Calls and returns (47_control.md R428 to R434) -/

/-- CALL nn and RST call their target (R428, R432). -/
theorem exec_of_callForm {i : Instr} {target : Word} (h : callForm i = some target) (s : State) :
    exec i s = .next (s.call target) := by
  unfold callForm at h
  split at h <;> cases h <;> rfl

/-- RET, RETN and RETI return; the last two restore IFF1 (R430, R433, R434). -/
theorem exec_of_retForm {i : Instr} {restores : Bool} (h : retForm i = some restores) (s : State) :
    exec i s = .next { s.ret with iff1 := if restores then s.iff2 else s.iff1 } := by
  unfold retForm at h
  split at h <;> cases h <;> rfl

/-- CALL cc,nn calls and charges its delta where the condition holds (R429). -/
theorem exec_callCcNn (s : State) (cc : Cond) (nn : Word) :
    exec (.callCcNn cc nn) s = .next (if condHolds s.f cc
      then (s.call nn).branch nn (BitVec.ofNat 8 (0xC4 + 8 * cc.field)) else s) := by
  rw [← s.f.cond_eq_condHolds, ← opXYZ_three_eq _ 4]
  rfl

/-- RET cc returns and charges its delta where the condition holds (R431). -/
theorem exec_retCc (s : State) (cc : Cond) :
    exec (.retCc cc) s = .next (if condHolds s.f cc
      then s.ret.branch s.popValue (BitVec.ofNat 8 (0xC0 + 8 * cc.field)) else s) := by
  rw [← s.f.cond_eq_condHolds, ← opXYZ_three_eq _ 0]
  rfl

/-- Settles O51: CALL and RST are calls, RET, RETN and RETI returns; under a condition they charge their delta too. -/
theorem callsAndReturns : Obligations.CallsAndReturns := by
  refine ⟨fun i s target h => ?call, fun i s restores h => ?ret, fun s cc nn => ?callCc, fun s cc => ?retCc⟩
  case call =>
    exact ⟨_, exec_of_callForm h s, rfl, rfl, storesWord_call s target, rfl, unchanged_call s target⟩
  case ret =>
    exact ⟨_, exec_of_retForm h s, rfl, rfl, rfl, rfl,
      ((unchanged_ret s).append (unchanged_setIff1 _ _)).mono (by simp)⟩
  case callCc =>
    refine ⟨_, exec_callCcNn s cc nn, fun h => ?taken, fun h => ?notTaken⟩
    case taken =>
      rw [if_pos h]
      exact ⟨rfl, rfl, storesWord_call s nn, rfl, (s.call nn).branch_tStates nn _,
        ((unchanged_call s nn).append (unchanged_branch _ nn _)).mono (by simp)⟩
    case notTaken =>
      rw [h]
      exact .refl _ s
  case retCc =>
    refine ⟨_, exec_retCc s cc, fun h => ?taken, fun h => ?notTaken⟩
    case taken =>
      rw [if_pos h]
      exact ⟨rfl, rfl, rfl, s.ret.branch_tStates _ _,
        ((unchanged_ret s).append (unchanged_branch _ _ _)).mono (by simp)⟩
    case notTaken =>
      rw [h]
      exact .refl _ s

end Sys2Proof.Machine
end

section
namespace Sys2Proof.Machine

open Sys2Proof.Machine.Claims

/-! ## Ports (48_io_cpu.md R460 to R465, 20_memory.md R90 to R92) -/

/-- Reading a port into a register, or into none (R460 to R462): the answer is taken, then the register is written. -/
def State.input (s : State) (port : Word) : Option Reg8 → State
  | none => s.ioRead port
  | some r => (s.ioRead port).setReg r (s.ioValue port)

section Input

variable (s : State) (port : Word) (dst : Option Reg8)

/-- The register holds the answer of the port. -/
theorem State.input_getReg (r : Reg8) : (s.input port (some r)).getReg r = s.ioValue port :=
  (State.getReg_setReg _ r r _).trans (if_pos rfl)

/-- One ready answer is used up. -/
theorem State.input_ioIn : (s.input port dst).ioIn = s.ioIn.tail := by
  cases dst with
  | none => rfl
  | some r => exact State.setReg_ioIn _ r _

/-- The read is recorded (R91). -/
theorem State.input_trace : (s.input port dst).trace = .portIn port (s.ioValue port) :: s.trace := by
  cases dst with
  | none => rfl
  | some r => exact State.setReg_trace _ r _

/-- The register changes, the ready answers and the trace. -/
theorem unchanged_input : Unchanged (dst.toList.map Part.reg ++ [.ioIn, .trace]) s (s.input port dst) := by
  cases dst with
  | none => exact unchanged_ioRead s port
  | some r =>
    exact ((unchanged_ioRead s port).append (unchanged_setReg _ r _)).mono fun _ =>
      List.perm_append_comm.mem_iff.mp

end Input

/-- Reading port BC into a register, or into none, then writing F with the flags of the byte, whose F5 and F3 are marked
bits (R461, R462). -/
def State.inputC (s : State) (dst : Option Reg8) : State :=
  (s.input s.bc dst).setFlags Flags.undocF53 (valueFlags (s.ioValue s.bc) (parity (s.ioValue s.bc)) s.f)

/-- F takes the flags of the byte, and C is kept. -/
theorem flagsGive_inputC (s : State) (dst : Option Reg8) :
    FlagsGive Flags.undocF53 (valueFlags (s.ioValue s.bc) (parity (s.ioValue s.bc)) s.f) s (s.inputC dst) :=
  flagsGive_setFlags (unchanged_input s s.bc dst).params _ _

/-- The register changes, F, the draws that the marked bits take, the ready answers and the trace. -/
theorem unchanged_inputC (s : State) (dst : Option Reg8) :
    Unchanged (dst.toList.map Part.reg ++ [.f, .draws, .ioIn, .trace]) s (s.inputC dst) :=
  ((unchanged_input s s.bc dst).append (unchanged_setFlags _ _ _)).mono fun _ => by
    simp only [List.mem_append, List.mem_cons]
    tauto

/-- IN F,(C) and IN r,(C) read port BC, the first into no register (R461, R462). -/
theorem exec_inputC {i : Instr} {dst : Option Reg8}
    (h : (i = .inFC ∧ dst = none) ∨ (∃ r, i = .inRC r ∧ dst = some r)) (s : State) :
    exec i s = .next (s.inputC dst) := by
  rcases h with ⟨rfl, rfl⟩ | ⟨r, rfl, rfl⟩ <;> rfl

/-- An output instruction writes its byte to its port (R463 to R465). -/
theorem exec_of_outForm {i : Instr} {port : State → Word} {v : State → Byte} (h : outForm i = some (port, v))
    (s : State) : exec i s = .next (s.ioWrite (port s) (v s)) := by
  unfold outForm at h
  split at h <;> cases h <;> rfl

/-- Settles O52: an input reads its port into its register, and with port BC writes F; an output is one port write. -/
theorem inputAndOutput : Obligations.InputAndOutput := by
  refine ⟨fun s n => ?inA, fun s i dst h => ?inC, fun i s port v h => ?out⟩
  case inA =>
    exact ⟨s.input (s.immPort n) (some .a), rfl, s.input_getReg _ .a, s.input_ioIn _ _, s.input_trace _ _,
      unchanged_input s _ (some .a)⟩
  case inC =>
    refine ⟨_, exec_inputC h s, ?reg, (State.setFlags_ioIn _ _ _).trans (s.input_ioIn _ dst),
      (State.setFlags_trace _ _ _).trans (s.input_trace _ dst), flagsGive_inputC s dst, unchanged_inputC s dst⟩
    case reg =>
      rintro r rfl
      exact (State.setFlags_getReg _ _ _ r).trans (s.input_getReg s.bc r)
  case out =>
    exact ⟨_, exec_of_outForm h s, rfl, unchanged_ioWrite s _ _⟩

/-! ## Control of the CPU (48_io_cpu.md R470, R474 to R479) -/

/-- A write of the halt flag. -/
theorem unchanged_setHalt (s : State) (v : Bool) : Unchanged [.halt] s { s with halt := v } :=
  ⟨fun q _ => by cases q <;> rfl, by simp⟩

/-- A write of both interrupt flip-flops, with the latch that EI and DI set (R475, R476). -/
theorem unchanged_setIffs (s : State) (v : Bool) :
    Unchanged [.iff1, .iff2, .eidi] s { s with iff1 := v, iff2 := v, eidi := true } :=
  ⟨fun q _ => by cases q <;> rfl, by simp⟩

/-- A write of the interrupt mode. -/
theorem unchanged_setIm (s : State) (m : Im) : Unchanged [.im] s { s with im := m } :=
  ⟨fun q _ => by cases q <;> rfl, by simp⟩

/-- An interrupt-mode instruction, alias or not, writes the mode (R477 to R479). -/
theorem exec_of_imForm {i : Instr} {m : Im} (h : imForm i = some m) (s : State) :
    exec i s = .next { s with im := m } := by
  unfold imForm at h
  split at h <;> cases h <;> rfl

/-- Settles O53: each of them is a write of the fields it names; NOP writes none. -/
theorem cpuControl : Obligations.CpuControl := by
  refine ⟨fun s => ⟨?nop, ?halt, ?di, ?ei⟩, fun i s m h => ?im⟩
  case nop => exact ⟨s, rfl, .refl _ s⟩
  case halt => exact ⟨_, rfl, rfl, rfl, (unchanged_setHalt s true).append (unchanged_setPc _ (s.pc - 1))⟩
  case di => exact ⟨_, rfl, rfl, rfl, rfl, unchanged_setIffs s false⟩
  case ei => exact ⟨_, rfl, rfl, rfl, rfl, unchanged_setIffs s true⟩
  case im => exact ⟨_, exec_of_imForm h s, rfl, unchanged_setIm s m⟩

end Sys2Proof.Machine
end

section
namespace Sys2Proof.Machine

open Sys2Proof.Machine.Claims

/-! ## Reset and construction (70_reset_and_hazards.md R530 to R533) -/

/-- At reset every register the host can name reads 0. -/
theorem getRegisterValue_reset (n : HostReg) : State.reset.getRegisterValue n = 0 := by
  cases n <;> decide

/-- After `reset()` every register reads as at reset, whatever the state was. -/
theorem getRegisterValue_resetCall (s : State) (n : HostReg) : s.resetCall.getRegisterValue n = 0 := by
  rw [← getRegisterValue_reset n]
  cases n <;> rfl

/-- `shallowReset()` changes the halt flag, PC and T alone. -/
theorem unchanged_shallowReset (s : State) : Unchanged [.halt, .pc, .tStates] s s.shallowReset :=
  ⟨fun q _ => by cases q <;> rfl, by simp [State.shallowReset]⟩

/-- Settles O1: the fields are those that the two calls write. -/
theorem resetAndShallowReset : Obligations.ResetAndShallowReset := fun s =>
  ⟨getRegisterValue_resetCall s, rfl, rfl, rfl, rfl, rfl, rfl, rfl, rfl, rfl, rfl, rfl, rfl, rfl, rfl, rfl, rfl,
    unchanged_shallowReset s⟩

/-- Settles O2: the default specification builds the default tables, and the machine at reset is one after `reset()`. -/
theorem constructionEndsInReset : Obligations.ConstructionEndsInReset := by
  intro p launch
  refine ⟨?_, getRegisterValue_reset, rfl, rfl, rfl, rfl, rfl, rfl, rfl, rfl, rfl, rfl⟩
  rw [construct, buildTables_default]
  rfl

/-! ## Which specifications the builder accepts (70_reset_and_hazards.md R566) -/

/-- The builder succeeds where no entry is a configuration error. -/
theorem buildOn_succeeds_iff (t : TimingTables) (spec : List TimingEntry) :
    (∃ t', buildOn t spec = .ok t') ↔ ∀ e ∈ spec, e.isBad = false := by
  induction spec generalizing t with
  | nil => simp [buildOn]
  | cons e rest ih =>
    rw [buildOn, List.forall_mem_cons]
    cases e.isBad with
    | true => simp
    | false => simpa using ih _

/-- Only the base and ED spaces have a table of deltas (R562). -/
theorem hasDelta_iff (sp : Space) : sp.hasDelta = true ↔ sp = .base ∨ sp = .ed := by
  cases sp <;> decide

/-- The two configuration errors of R566. -/
theorem isBad_eq_false_iff (e : TimingEntry) :
    e.isBad = false ↔ targets e.pattern ≠ []
      ∧ ∀ c1 c2, e.counts = .two c1 c2 → ∀ x ∈ targets e.pattern, x.1 = .base ∨ x.1 = .ed := by
  unfold TimingEntry.isBad
  split
  · next c h => simp [h]
  · next c1 c2 h => simp [h, ← hasDelta_iff]

/-- Settles O3, entry by entry. -/
theorem timingSpecAccepted : Obligations.TimingSpecAccepted := by
  intro spec
  rw [buildTables, buildOn_succeeds_iff]
  simp only [isBad_eq_false_iff]

/-! ## The entries that the builder writes (70_reset_and_hazards.md R558 to R563) -/

/-- The builder writes one entry of a list, and only where it is unset (R559). -/
theorem setUnsetEntry_getElem? (c k j : Nat) (t : List (Option Nat)) :
    (setUnsetEntry c k t)[j]? = if j = k then t[j]?.map (·.or (some c)) else t[j]? := by
  induction t generalizing k j with
  | nil => simp [setUnsetEntry]
  | cons x xs ih => cases k <;> cases j <;> simp [setUnsetEntry, ih]

/-- An entry of a table is the one of its list. -/
theorem TimingTable.toList_getElem? (t : TimingTable) (op : Byte) :
    t.toList[op.toNat]? = some (TimingTable.entry t op) := by
  simp [TimingTable.entry, op.isLt]

/-- An entry after a write: the written one keeps the value it had (R559). -/
theorem TimingTable.entry_setUnset (t : TimingTable) (op k : Byte) (c : Nat) :
    TimingTable.entry (TimingTable.setUnset t op c) k
      = if k = op then (TimingTable.entry t k).or (some c) else TimingTable.entry t k := by
  have h : (TimingTable.setUnset t op c).toList[k.toNat]? = _ := setUnsetEntry_getElem? c op.toNat k.toNat t.toList
  simp only [TimingTable.toList_getElem?, BitVec.toNat_inj] at h
  split_ifs at h ⊢ <;> exact Option.some.inj h

/-- Every entry that is set in the first table is the same in the second. -/
def TimingTable.KeptIn (t t' : TimingTable) : Prop :=
  ∀ (op : Byte) (c : Nat), TimingTable.entry t op = some c → TimingTable.entry t' op = some c

theorem TimingTable.keptIn_setUnset (t : TimingTable) (op : Byte) (c : Nat) :
    TimingTable.KeptIn t (TimingTable.setUnset t op c) := by
  intro k d h
  rw [TimingTable.entry_setUnset, h]
  simp

/-- Every entry that is set in the first tables is the same in the second. -/
def TimingTables.KeptIn (t t' : TimingTables) : Prop :=
  (∀ sp : Space, TimingTable.KeptIn (t.primary sp) (t'.primary sp)) ∧ TimingTable.KeptIn t.baseAlt t'.baseAlt
    ∧ TimingTable.KeptIn t.edAlt t'.edAlt

theorem TimingTables.KeptIn.refl (t : TimingTables) : TimingTables.KeptIn t t :=
  ⟨fun _ _ _ h => h, fun _ _ h => h, fun _ _ h => h⟩

theorem TimingTables.KeptIn.trans {t u v : TimingTables} :
    TimingTables.KeptIn t u → TimingTables.KeptIn u v → TimingTables.KeptIn t v
  | ⟨hp, hb, he⟩, ⟨kp, kb, ke⟩ =>
    ⟨fun sp op c e => kp sp op c (hp sp op c e), fun op c e => kb op c (hb op c e), fun op c e => ke op c (he op c e)⟩

/-- A write of a primary entry. -/
theorem TimingTables.primary_setPrimary (t : TimingTables) (sp sp' : Space) (op : Byte) (c : Nat) :
    (t.setPrimary sp op c).primary sp'
      = if sp' = sp then TimingTable.setUnset (t.primary sp) op c else t.primary sp' := by
  cases sp <;> cases sp' <;> rfl

theorem TimingTables.keptIn_setPrimary (t : TimingTables) (sp : Space) (op : Byte) (c : Nat) :
    TimingTables.KeptIn t (t.setPrimary sp op c) := by
  refine ⟨fun sp' => ?_, ?_, ?_⟩
  · rw [TimingTables.primary_setPrimary]
    split
    · next h => exact h ▸ TimingTable.keptIn_setUnset _ op c
    · exact fun _ _ h => h
  all_goals cases sp <;> exact fun _ _ h => h

theorem TimingTables.keptIn_setDelta (t : TimingTables) (sp : Space) (op : Byte) (c : Nat) :
    TimingTables.KeptIn t (t.setDelta sp op c) := by
  obtain ⟨hp, hb, he⟩ := TimingTables.KeptIn.refl t
  cases sp with
  | base => exact ⟨fun sp => by cases sp <;> exact fun _ _ h => h, TimingTable.keptIn_setUnset _ op c, he⟩
  | ed => exact ⟨fun sp => by cases sp <;> exact fun _ _ h => h, hb, TimingTable.keptIn_setUnset _ op c⟩
  | cb | xy | xycb => exact ⟨hp, hb, he⟩

/-- One specification entry. -/
theorem TimingTables.keptIn_enter (counts : Counts) (at_ : List (Space × Byte)) (t : TimingTables) :
    TimingTables.KeptIn t (t.enter counts at_) := by
  induction at_ generalizing t with
  | nil => exact .refl t
  | cons x xs ih =>
    have hx : TimingTables.KeptIn t (t.enter counts [x]) := by
      cases counts with
      | one c => exact TimingTables.keptIn_setPrimary t x.1 x.2 c
      | two c1 c2 => exact (TimingTables.keptIn_setPrimary t x.1 x.2 _).trans (TimingTables.keptIn_setDelta _ x.1 x.2 _)
    exact hx.trans (ih _)

/-- A whole specification. -/
theorem keptIn_buildOn {spec : List TimingEntry} {t t' : TimingTables} (h : buildOn t spec = .ok t') :
    TimingTables.KeptIn t t' := by
  induction spec generalizing t with
  | nil =>
    cases h
    exact .refl _
  | cons e rest ih =>
    rw [buildOn] at h
    split at h
    · cases h
    · exact (TimingTables.keptIn_enter e.counts (targets e.pattern) _).trans (ih h)

/-- Settles O4: what is set is kept, write by write. -/
theorem firstPopulatedWins : Obligations.FirstPopulatedWins := fun _ _ _ h => keptIn_buildOn h

/-! ## What a list of one entry builds (70_reset_and_hazards.md R558, R561 to R563) -/

/-- An entry with one target that is no configuration error. -/
theorem buildTables_singleton {pattern : List Slot} {x : Space × Byte} (h : targets pattern = [x]) {counts : Counts}
    (hc : x.1.hasDelta = true ∨ ∃ c, counts = .one c) :
    buildTables [⟨pattern, counts⟩] = .ok (TimingTables.unset.enter counts [x]) := by
  have hbad : TimingEntry.isBad ⟨pattern, counts⟩ = false := by
    rcases hc with hd | ⟨c, rfl⟩
    · cases counts <;> simp [TimingEntry.isBad, h, hd]
    · simp [TimingEntry.isBad, h]
  simp [buildTables, buildOn, hbad, h]

/-- Every entry is unset before the first is written. -/
theorem entry_unset (op : Byte) : TimingTable.entry (Vector.replicate 256 none) op = none :=
  Vector.getElem_replicate _

/-- A write to an unset table. -/
theorem entry_setUnset_unset (op : Byte) (c : Nat) :
    TimingTable.entry (TimingTable.setUnset (Vector.replicate 256 none) op c) op = some c := by
  rw [TimingTable.entry_setUnset, if_pos rfl, entry_unset]
  rfl

/-- One count sets the primary entry of its target and no delta (R561). -/
theorem buildTables_one {pattern : List Slot} {sp : Space} {op : Byte} (h : targets pattern = [(sp, op)]) (c : Nat) :
    ∃ t, buildTables [⟨pattern, .one c⟩] = .ok t ∧ TimingTable.entry (t.primary sp) op = some c
      ∧ TimingTable.entry t.baseAlt op = none ∧ TimingTable.entry t.edAlt op = none := by
  refine ⟨_, buildTables_singleton h (.inr ⟨c, rfl⟩), ?_⟩
  cases sp <;> exact ⟨entry_setUnset_unset op c, entry_unset op, entry_unset op⟩

/-- Two counts set the primary entry to their minimum, and the delta to their difference (R562). -/
theorem buildTables_two {pattern : List Slot} {sp : Space} {op : Byte} (h : targets pattern = [(sp, op)])
    (hd : sp.hasDelta = true) (c1 c2 : Nat) :
    ∃ t, buildTables [⟨pattern, .two c1 c2⟩] = .ok t ∧ TimingTable.entry (t.primary sp) op = some (min c1 c2)
      ∧ (sp = .base → TimingTable.entry t.baseAlt op = some (max c1 c2 - min c1 c2))
      ∧ (sp = .ed → TimingTable.entry t.edAlt op = some (max c1 c2 - min c1 c2)) := by
  refine ⟨_, buildTables_singleton h (.inl hd), ?_⟩
  rcases (hasDelta_iff sp).mp hd with rfl | rfl
  · exact ⟨entry_setUnset_unset op _, fun _ => entry_setUnset_unset op _, nofun⟩
  · exact ⟨entry_setUnset_unset op _, nofun, fun _ => entry_setUnset_unset op _⟩

/-! The targets of a pattern that is a byte sequence (R558). -/

theorem targets_base {b : Byte} (hb : isPrefixByte b = false) : targets [.lit b] = [(.base, b)] := by
  simp_all [isPrefixByte, targets, expand, expandSlot, classify, Slot.isOperand]

theorem targets_cb (b : Byte) : targets [.lit 0xCB, .lit b] = [(.cb, b)] := rfl

theorem targets_ed (b : Byte) : targets [.lit 0xED, .lit b] = [(.ed, b)] := rfl

theorem targets_xy {x b : Byte} (hx : x = 0xDD ∨ x = 0xFD) (hb : b ≠ 0xCB) :
    targets [.lit x, .lit b] = [(.xy, b)] := by
  have hc : classify [x, b] = some (.xy, b) := by
    rcases hx with rfl | rfl <;> exact if_neg (by simpa using hb)
  simp [targets, expand, expandSlot, Slot.isOperand, hc]

theorem targets_xycb {x : Byte} (hx : x = 0xDD ∨ x = 0xFD) (b : Byte) :
    targets [.lit x, .lit 0xCB, .off, .lit b] = [(.xycb, b)] := by
  rcases hx with rfl | rfl <;> rfl

/-- Settles O5: each of the patterns has one target. -/
theorem countsSplit : Obligations.CountsSplit := by
  intro b c c1 c2
  refine ⟨fun hb => ⟨?base2, ?base1⟩, ?ed2, ?ed1, ?cb, fun x hx => ⟨fun hb => ?xy, ?xycb⟩⟩
  case base2 =>
    obtain ⟨t, ht, hp, hd, -⟩ := buildTables_two (targets_base hb) rfl c1 c2
    exact ⟨t, ht, hp, hd rfl⟩
  case base1 =>
    obtain ⟨t, ht, hp, hd, -⟩ := buildTables_one (targets_base hb) c
    exact ⟨t, ht, hp, hd⟩
  case ed2 =>
    obtain ⟨t, ht, hp, -, hd⟩ := buildTables_two (targets_ed b) rfl c1 c2
    exact ⟨t, ht, hp, hd rfl⟩
  case ed1 =>
    obtain ⟨t, ht, hp, -, hd⟩ := buildTables_one (targets_ed b) c
    exact ⟨t, ht, hp, hd⟩
  case cb =>
    obtain ⟨t, ht, hp, -⟩ := buildTables_one (targets_cb b) c
    exact ⟨t, ht, hp⟩
  case xy =>
    obtain ⟨t, ht, hp, -⟩ := buildTables_one (targets_xy hx hb) c
    exact ⟨t, ht, hp⟩
  case xycb =>
    obtain ⟨t, ht, hp, -⟩ := buildTables_one (targets_xycb hx b) c
    exact ⟨t, ht, hp⟩

end Sys2Proof.Machine
end

section
namespace Sys2Proof.Machine

open Sys2Proof.Machine.Claims

/-! ## What every instruction and every step keeps (60_exceptions.md R490 to R494, 70_reset_and_hazards.md R564) -/

/-- The constants of the engine, and T, which does not fall. -/
def KeepsConstants (s t : State) : Prop :=
  t.timing = s.timing ∧ t.params = s.params ∧ t.resetAddress = s.resetAddress ∧ s.tStates ≤ t.tStates

theorem KeepsConstants.trans {s t u : State} : KeepsConstants s t → KeepsConstants t u → KeepsConstants s u
  | ⟨ht, hp, hr, hT⟩, ⟨kt, kp, kr, kT⟩ => ⟨kt.trans ht, kp.trans hp, kr.trans hr, hT.trans kT⟩

theorem Keeps.timing {s t : State} (h : Keeps s t) : t.timing = s.timing := congrArg Control.timing h.control

theorem Keeps.constants {s t : State} (h : Keeps s t) : KeepsConstants s t :=
  ⟨h.timing, h.params, congrArg Control.resetAddress h.control, h.tStates⟩

/-- No instruction changes the constants or takes T back. -/
theorem Effect.constants {i : Instr} {s t : State} (h : Effect i s t) : KeepsConstants s t := by
  cases h with
  | keeps h => exact h.constants
  | _ => exact ⟨rfl, rfl, rfl, le_rfl⟩

/-- No instruction ends a HALT (10_state.md R49). -/
theorem Effect.halt_of_halt {i : Instr} {s t : State} (h : Effect i s t) (hs : s.halt = true) : t.halt = true := by
  cases h with
  | keeps h => exact (congrArg Control.halt h.control).trans hs
  | halt => rfl
  | _ => exact hs

/-- A well-formed instruction completes. -/
theorem exec_completes {i : Instr} (hi : i.wellFormed = true) (s : State) : ∃ t, exec i s = .next t ∧ Effect i s t := by
  rcases exec_answers i s with h | ⟨hf, -⟩
  · exact h
  · rw [hi] at hf
    cases hf

/-- Settles O16, by the effects of an instruction. -/
theorem everyInstructionCompletes : Obligations.EveryInstructionCompletes := by
  intro i s hi
  obtain ⟨t, ht, he⟩ := exec_completes hi s
  obtain ⟨htiming, hparams, hreset, hT⟩ := he.constants
  exact ⟨t, ht, hparams, htiming, hreset, he.nmi, hT, he.halt_of_halt⟩

/-- What the decoder reads completes. -/
theorem exec_decoded {bs : List Byte} {i : Instr} (h : decode bs = .ok i) (s : State) : ∃ t, exec i s = .next t :=
  (exec_completes (encodeDecode bs i h).1 s).imp fun _ ht => ht.1

/-- Where a step decodes, nothing that `Keeps` speaks of has changed but the EI/DI latch, which is clear. -/
theorem keeps_atOpcode (s : State) (k : Nat) : Keeps { s with eidi := false } (s.atOpcode k) := keeps_behind k _

/-- Each way a step can end keeps the constants. -/
theorem StepGives.constants {s t : State} {o : Out} (g : StepGives s o) (ht : leaves o = some t) :
    KeepsConstants s t := by
  cases g with
  | nmi =>
    cases ht
    exact ⟨rfl, rfl, rfl, Nat.le_add_right _ _⟩
  | endless => cases ht
  | @ends k _ _ _ g =>
    have hu := keeps_atOpcode s k
    cases g with
    | unimplemented | timingMissing =>
      cases ht
      exact (keeps_stopAtDecode hu _ _).constants
    | @runs i c =>
      exact (hu.trans (keeps_dispatched _ i c)).constants.trans (Effect.of_next (exec_eq_next_of_leaves ht)).constants

/-- Settles O19: each way a step can end keeps the constants. -/
theorem stepKeepsConstants : Obligations.StepKeepsConstants := fun s _ ht => (step_gives s).constants ht

/-- The rows that `DDFD_UNDOC` enables: a base instruction behind DD or FD, or a discarded byte (R137). -/
theorem isDdfdUndoc_eq (i : Instr) : isDdfdUndoc i = (isBehind i || i.isDiscarded) := by
  cases i <;> rfl

/-- Only `DDFD_UNDOC = Execute` lets a byte be discarded (30_encoding.md R137). -/
theorem ddfdUndoc_of_discards {s : State} (h : s.discards = true) : s.params.ddfdUndoc = .execute := by
  unfold State.discards at h
  split at h
  · next i _ =>
    simp only [enabled, Bool.and_eq_true, Bool.or_eq_true, Bool.not_eq_true', beq_iff_eq] at h
    obtain ⟨hd, ⟨-, hp⟩, -⟩ := h
    exact hp.resolve_left (by simp [isDdfdUndoc_eq, hd])
  · cases h

/-- A step completes, stops at decode with T as it was, or follows discarded bytes that never end. -/
theorem StepGives.outcomes {s : State} {o : Out} (g : StepGives s o) :
    (∃ t, o = .next t)
      ∨ (∃ pc bytes after, o = .fault (.unimplementedOpcode pc bytes after) ∧ after.tStates = s.tStates)
      ∨ (∃ pc bytes after, o = .fault (.timingUnset pc bytes after) ∧ after.tStates = s.tStates)
      ∨ (NoNmi s ∧ (∀ k, DiscardsFor k s) ∧ o = .fault (.endlessPrefixChain s.pc)) := by
  cases g with
  | nmi => exact .inl ⟨_, rfl⟩
  | endless hn hk => exact .inr (.inr (.inr ⟨hn, hk, rfl⟩))
  | ends _ _ g =>
    cases g with
    | unimplemented => exact .inr (.inl ⟨_, _, _, rfl, rfl⟩)
    | timingMissing => exact .inr (.inr (.inl ⟨_, _, _, rfl, rfl⟩))
    | runs hi => exact .inl (exec_decoded hi _)

/-- The step has no end where it takes no NMI and the discarded bytes never end (30_encoding.md R137; log 11). -/
theorem step_endless {s : State} (hn : NoNmi s) (hk : ∀ k, DiscardsFor k s) :
    step s = .fault (.endlessPrefixChain s.pc) :=
  (step_of_no_nmi hn).trans (State.run_endless fun k => (discardsFor_eidi false).mpr (hk k))

/-- Settles O15: the ways a step can end, an instruction that is decoded always completing. -/
theorem stepOutcomes : Obligations.StepOutcomes := by
  intro s
  have h := (step_gives s).outcomes
  refine ⟨?ways, ?endless, fun ⟨hn, hk⟩ => ⟨s.pc, step_endless hn hk⟩⟩
  case ways =>
    exact h.imp_right (Or.imp_right (Or.imp_right fun ⟨_, hk, ho⟩ => ⟨ddfdUndoc_of_discards (hk 1).1, ho⟩))
  case endless =>
    rintro ⟨pc, hpc⟩
    rw [hpc] at h
    rcases h with ⟨_, h⟩ | ⟨_, _, _, h, -⟩ | ⟨_, _, _, h, -⟩ | ⟨hn, hk, -⟩
    · cases h
    · cases h
    · cases h
    · exact ⟨hn, hk⟩

/-! ## Taking the NMI (60_exceptions.md R501) -/

/-- The pushed return address is past the HALT that the NMI ends under `AfterHalt` (decision D18). -/
theorem State.nmiReturn_eq (s : State) :
    s.nmiReturn = if s.halt = true ∧ s.params.nmiHaltResume = .afterHalt then s.pc + 1 else s.pc := by
  simp [State.nmiReturn]

/-- Settles O9: the acceptance, field by field; the stack write is a push. -/
theorem nmiAcceptance : Obligations.NmiAcceptance := by
  intro s he hn
  rw [← State.nmiReturn_eq]
  exact ⟨s.acceptNmi, step_of_nmi he hn, rfl, rfl, rfl, rfl, rfl, rfl, refreshGives_bumpR s 1,
    storesWord_write16 (t := s) rfl rfl _ _, rfl, fun q _ => by cases q <;> rfl, by simp [State.acceptNmi_eq]⟩

end Sys2Proof.Machine
end

section
namespace Sys2Proof.Machine

open Sys2Proof.Machine.Claims

/-! ## Where a step decodes, and what it has fetched (30_encoding.md R127, R137; 60_exceptions.md R491 to R493) -/

/-- A step that takes no NMI ends as the bytes behind the discarded ones do. -/
theorem step_of_endsWith {s : State} {k : Nat} {o : Out} (hn : NoNmi s) (hk : DiscardsFor k s)
    (h : EndsWith s.tStates (s.atOpcode k) o) : step s = o :=
  (step_of_no_nmi hn).trans (State.run_behind ((discardsFor_eidi false).mpr hk) h.runOnce_eq)

/-- The fetches of 30_encoding.md R127 are those of 60_exceptions.md R492. -/
theorem opcodeBytes_eq (b0 b1 : Byte) : opcodeBytes b0 b1 = bytesToDecide b0 b1 := by
  unfold opcodeBytes bytesToDecide isPrefixByte
  grind

/-- Two of the opcode bytes raise R where a byte opens another space, else one (10_state.md R38). -/
theorem refreshFetches_eq (b0 b1 : Byte) : refreshFetches b0 b1 = if isPrefixByte b0 then 2 else 1 := by
  rw [refreshFetches, opcodeBytes_eq, bytesToDecide]
  split_ifs <;> rfl

/-- A write of the EI/DI latch. -/
theorem unchanged_setEidi (s : State) (v : Bool) : Unchanged [.eidi] s { s with eidi := v } :=
  ⟨fun q _ => by cases q <;> rfl, by simp⟩

/-- A write of T. -/
theorem unchanged_setTStates (s : State) (n : Nat) : Unchanged [.tStates] s { s with tStates := n } :=
  ⟨fun q _ => by cases q <;> rfl, by simp⟩

/-- Where T has its old value at the end, it need not be named as changed. -/
theorem Unchanged.of_tStates_eq {l : List Part} {s t : State} (h : Unchanged (.tStates :: l) s t)
    (hT : t.tStates = s.tStates) : Unchanged l s t := by
  simp only [Unchanged, List.mem_cons, reduceCtorEq, false_or] at h ⊢
  simp_all

/-- Fetches see PC, the trace, memory and the parameters alone. -/
theorem State.fetchMany_trace_congr {s u : State} (hpc : u.pc = s.pc) (ht : u.trace = s.trace) (hm : u.mem = s.mem)
    (hp : u.params = s.params) (n : Nat) : (u.fetchMany n).trace = (s.fetchMany n).trace := by
  induction n generalizing s u with
  | zero => exact ht
  | succ n ih => exact ih (by simp [hpc]) (by simp [State.byteAt, hpc, ht, hm, hp]) hm hp

@[simp] theorem State.fetchMany_r (s : State) (n : Nat) : (s.fetchMany n).r = s.r := by rw [fetchMany_frame]
@[simp] theorem State.fetchMany_eidi (s : State) (n : Nat) : (s.fetchMany n).eidi = s.eidi := by rw [fetchMany_frame]
@[simp] theorem State.fetchMany_tStates (s : State) (n : Nat) : (s.fetchMany n).tStates = s.tStates := by
  rw [fetchMany_frame]
@[simp] theorem State.fetchMany_mem (s : State) (n : Nat) : (s.fetchMany n).mem = s.mem := by rw [fetchMany_frame]
@[simp] theorem State.fetchMany_params (s : State) (n : Nat) : (s.fetchMany n).params = s.params := by
  rw [fetchMany_frame]

/-- The state of a step that takes no NMI behind `k` discarded bytes and `m` further fetches, R raised by `j` for those,
and T at `n`. -/
def State.fetchedBehind (s : State) (k m j n : Nat) : State :=
  { ((s.atOpcode k).fetchMany m).bumpR j with tStates := n }

section FetchedBehind

variable (s : State) (k m j n : Nat)

theorem State.atOpcode_pc : (s.atOpcode k).pc = s.pc + BitVec.ofNat 16 k := (State.behind_eq k _).1

theorem State.fetchedBehind_pc : (s.fetchedBehind k m j n).pc = s.pc + BitVec.ofNat 16 (k + m) := by
  rw [BitVec.ofNat_add, ← BitVec.add_assoc, ← State.atOpcode_pc]
  exact State.fetchMany_pc _ m

theorem State.fetchedBehind_eidi : (s.fetchedBehind k m j n).eidi = false :=
  (State.fetchMany_eidi _ m).trans (congrArg State.eidi (State.behind_eidi false k s))

theorem State.fetchedBehind_trace :
    (s.fetchedBehind k m j n).trace = fetchEvents s.pc (s.fetchedBytes (k + m)) ++ s.trace := by
  obtain ⟨hpc, hmem, hparams⟩ := State.behind_eq k { s with eidi := false }
  calc ((s.atOpcode k).fetchMany m).trace
    _ = (State.fetchMany { s with eidi := false } (k + m)).trace := by
      rw [State.fetchMany_add]
      exact State.fetchMany_trace_congr (hpc.trans (State.fetchMany_pc _ k).symm) (State.behind_fetches k _).1
        (hmem.trans (State.fetchMany_mem _ k).symm) (hparams.trans (State.fetchMany_params _ k).symm) m
    _ = _ := by rw [State.fetchEvents_behind, State.fetchedBytes_eidi]

theorem refreshGives_fetchedBehind : RefreshGives (k + j) s (s.fetchedBehind k m j n) := by
  have hk : RefreshGives k s (s.atOpcode k) := State.refreshGives_behind k { s with eidi := false }
  have hm : RefreshGives 0 (s.atOpcode k) ((s.atOpcode k).fetchMany m) := refreshGives_zero (State.fetchMany_r _ m)
  have hparams : (s.atOpcode k).params = s.params := (keeps_atOpcode s k).params
  exact (hk.trans hparams hm).trans ((State.fetchMany_params _ m).trans hparams) (refreshGives_bumpR _ j)

theorem unchanged_fetchedBehind : Unchanged [.pc, .tStates, .eidi, .r, .trace] s (s.fetchedBehind k m j n) :=
  (((((unchanged_setEidi s false).append (State.unchanged_behind k _)).append (unchanged_fetchMany _ m)).append
    (unchanged_bumpR _ j)).append (unchanged_setTStates _ n)).mono (by simp)

end FetchedBehind

/-- A stop at decode stands behind the opcode bytes, with T as it was where the step began. -/
theorem State.stopAtDecode_atOpcode (s : State) (k : Nat) (b0 b1 : Byte) :
    (s.atOpcode k).stopAtDecode s.tStates b0 b1
      = s.fetchedBehind k (bytesToDecide b0 b1) (if isPrefixByte b0 then 2 else 1) s.tStates := by
  rw [← refreshFetches_eq b0 b1, ← opcodeBytes_eq]
  rfl

/-- A meaning runs behind the whole instruction, with its cycles charged. -/
theorem State.dispatched_atOpcode (s : State) {i : Instr} (hd : i.isDiscarded = false) (c : Nat) :
    (s.atOpcode 0).dispatched i c
      = s.fetchedBehind 0 i.length (if isPrefixByte (s.byteAt s.pc) then 2 else 1) (s.tStates + c) := by
  have hT : ((s.atOpcode 0).fetchMany i.length).tStates = s.tStates := State.fetchMany_tStates _ _
  unfold State.dispatched
  dsimp only
  rw [State.bytesAtPc_atOpcode, hd, if_neg Bool.false_ne_true, refreshFetches_eq, ← hT]
  rfl

/-- Settles O7: the meaning runs behind the fetches, with its cycles charged. -/
theorem stepRunsTheDecodedInstruction : Obligations.StepRunsTheDecodedInstruction := by
  intro s i c hn hdec hd he hc
  have hbytes : (s.atOpcode 0).bytesAtPc = s.fetchedBytes 4 := s.bytesAtPc_atOpcode 0
  have hstep := step_of_endsWith hn (k := 0) trivial (.runs (hbytes ▸ hdec) hd he (hbytes ▸ hc))
  rw [State.dispatched_atOpcode s hd] at hstep
  have hpc := s.fetchedBehind_pc 0 i.length
  have hr := refreshGives_fetchedBehind s 0 i.length (if isPrefixByte (s.byteAt s.pc) then 2 else 1)
  have htrace := s.fetchedBehind_trace 0 i.length
  rw [Nat.zero_add] at hpc hr htrace
  exact ⟨_, hstep, hpc _ _, rfl, s.fetchedBehind_eidi .., hr _, htrace _ _, (unchanged_fetchedBehind ..).mono (by simp)⟩

/-- What a step that stops at decode behind `k` discarded bytes leaves (60_exceptions.md R492, R493; logs 8, 12, 24). -/
theorem stopAtDecode_gives (s : State) (k : Nat) (b0 b1 : Byte) :
    let after := (s.atOpcode k).stopAtDecode s.tStates b0 b1
    let n := bytesToDecide b0 b1
    after.pc = s.pc + BitVec.ofNat 16 (k + n) ∧ after.tStates = s.tStates ∧ after.eidi = false
      ∧ RefreshGives (k + if isPrefixByte b0 then 2 else 1) s after
      ∧ after.trace = fetchEvents s.pc (s.fetchedBytes (k + n)) ++ s.trace
      ∧ Unchanged [.pc, .eidi, .r, .trace] s after := by
  dsimp only
  rw [State.stopAtDecode_atOpcode]
  have hframe := unchanged_fetchedBehind s k (bytesToDecide b0 b1) (if isPrefixByte b0 then 2 else 1) s.tStates
  exact ⟨s.fetchedBehind_pc .., rfl, s.fetchedBehind_eidi .., refreshGives_fetchedBehind .., s.fetchedBehind_trace ..,
    (hframe.mono (by simp)).of_tStates_eq rfl⟩

theorem State.fetchedBytes_atOpcode (s : State) (k m : Nat) :
    (s.atOpcode k).fetchedBytes m = (s.behind k).fetchedBytes m := by
  rw [State.atOpcode, State.behind_eidi, State.fetchedBytes_eidi]

/-- Settles O14: the bytes end the step in `timingMissing`. -/
theorem timingUnset : Obligations.TimingUnset := by
  intro s k i hn hk hdec he hc u n
  rw [← State.bytesAtPc_atOpcode] at hdec hc
  obtain ⟨htiming, hparams, -⟩ : KeepsConstants s (s.atOpcode k) := (keeps_atOpcode s k).constants
  rw [← hparams] at he
  rw [← htiming] at hc
  have hstep := step_of_endsWith hn hk (.timingMissing hdec he hc)
  rw [State.bytesAtPc_atOpcode, State.timingMissing, State.fetchedBytes_atOpcode, State.atOpcode_pc,
    opcodeBytes_eq] at hstep
  exact ⟨_, hstep, stopAtDecode_gives s k _ _⟩

/-- An instruction whose bytes do not open the ED, DD or FD space is enabled under every setting (30_encoding.md R136 to
R138). -/
theorem enabled_of_first_byte {p : Params} {b0 b1 b2 b3 : Byte} (h : b0 ≠ 0xED ∧ b0 ≠ 0xDD ∧ b0 ≠ 0xFD) :
    ∃ i, decode [b0, b1, b2, b3] = .ok i ∧ enabled p i = true := by
  obtain ⟨hed, hdd, hfd⟩ := h
  obtain ⟨i, hi⟩ := reservedOpcodes.2 b0 b1 b2 b3 hed
  exact ⟨i, hi, (undocumentedRowsAreGated p b0 b1 b2 b3 i hi).mpr (by tauto)⟩

/-- Settles O11: the bytes end the step in `unimplemented`; only behind ED, DD and FD is there a byte without an enabled
row. -/
theorem unimplementedOpcode : Obligations.UnimplementedOpcode := by
  intro s k hn hk hdec u n
  have hfirst : u.byteAt u.pc = 0xED ∨ u.byteAt u.pc = 0xDD ∨ u.byteAt u.pc = 0xFD := by
    by_contra hne
    obtain ⟨i, hi, he⟩ := enabled_of_first_byte (p := s.params) (by simpa using hne)
    rw [hdec i hi] at he
    cases he
  have hprefix : isPrefixByte (u.byteAt u.pc) = true := isPrefixByte_iff.mpr (by tauto)
  have hparams : (s.atOpcode k).params = s.params := (keeps_atOpcode s k).params
  rw [← State.bytesAtPc_atOpcode, ← hparams] at hdec
  have hstep := step_of_endsWith hn hk (.unimplemented hdec)
  rw [State.bytesAtPc_atOpcode, State.unimplemented, State.fetchedBytes_atOpcode, State.atOpcode_pc,
    opcodeBytes_eq] at hstep
  have hstop := stopAtDecode_gives s k (u.byteAt u.pc) (u.fetch.byteAt (u.pc + 1))
  rw [if_pos hprefix] at hstop
  exact ⟨hfirst, _, hstep, hstop⟩

end Sys2Proof.Machine
end

section
namespace Sys2Proof.Machine

open Sys2Proof.Machine.Claims

/-! ## The default charges (70_reset_and_hazards.md R560, R565, R567) -/

/-- The charge is set, and from 4 to `hi`. -/
def isCharge (hi : Nat) (x : Option Nat) : Bool := x.any fun c => decide (4 ≤ c ∧ c ≤ hi)

theorem isCharge_iff {hi : Nat} {x : Option Nat} : isCharge hi x = true ↔ ∃ c, x = some c ∧ 4 ≤ c ∧ c ≤ hi := by
  simp [isCharge, Option.any_eq_true]

/-- What holds of the entries of a table, read once from first to last, holds of each opcode's entry. -/
theorem holds_of_all_entries {t : TimingTable} {p : Byte → Option Nat → Bool}
    (h : (t.toList.zipIdx.all fun x => p (BitVec.ofNat 8 x.2) x.1) = true) (op : Byte) :
    p op (TimingTable.entry t op) = true := by
  have hmem : (TimingTable.entry t op, op.toNat) ∈ t.toList.zipIdx := by
    rw [List.mk_mem_zipIdx_iff_getElem?, TimingTable.toList_getElem?]
  simpa using List.all_eq_true.mp h _ hmem

/-! The default tables have a charge for each opcode that the map of 30_encoding.md defines, and in the base space one
that leaves room for the four T-states of a DD or FD before it. -/

theorem isCharge_base {op : Byte} (h : isPrefixByte op = false) :
    isCharge 19 (TimingTable.entry defaultTables.base op) = true := by
  simpa [h] using holds_of_all_entries (p := fun op x => isPrefixByte op || isCharge 19 x) (by decide +kernel) op

theorem isCharge_cb (op : Byte) : isCharge 23 (TimingTable.entry defaultTables.cb op) = true :=
  holds_of_all_entries (p := fun _ x => isCharge 23 x) (by decide +kernel) op

theorem isCharge_ed {op : Byte} (h : reservedED op = false) :
    isCharge 23 (TimingTable.entry defaultTables.ed op) = true := by
  simpa [h] using holds_of_all_entries (p := fun op x => reservedED op || isCharge 23 x) (by decide +kernel) op

theorem isCharge_xy {op : Byte} (h : op ∈ documentedXY) :
    isCharge 23 (TimingTable.entry defaultTables.xy op) = true := by
  simpa [h] using holds_of_all_entries (p := fun op x => decide (op ∉ documentedXY) || isCharge 23 x)
    (by decide +kernel) op

theorem isCharge_xycb (op : Byte) : isCharge 23 (TimingTable.entry defaultTables.xycb op) = true :=
  holds_of_all_entries (p := fun _ x => isCharge 23 x) (by decide +kernel) op

theorem isCharge_mono {lo hi : Nat} (h : lo ≤ hi) {x : Option Nat} (hx : isCharge lo x = true) :
    isCharge hi x = true := by
  obtain ⟨c, rfl, h4, hc⟩ := isCharge_iff.mp hx
  exact isCharge_iff.mpr ⟨c, rfl, h4, hc.trans h⟩

/-- Every instruction but a discarded byte and one behind DD or FD is charged the entry of its opcode (R567). -/
theorem primaryCharge_of_classify {i : Instr} (hi : isDdfdUndoc i = false) {bs : List Byte} {sp : Space} {op : Byte}
    (h : classify bs = some (sp, op)) (t : TimingTables) :
    primaryCharge t i bs = TimingTable.entry (t.primary sp) op := by
  rw [isDdfdUndoc_eq, Bool.or_eq_false_iff] at hi
  simp [primaryCharge, hi, h]

/-- A base instruction behind DD or FD is charged four more than its base entry (R567; log 10). -/
theorem primaryCharge_behind {i : Instr} (hi : isBehind i = true) (t : TimingTables) (bs : List Byte) :
    primaryCharge t i bs = (TimingTable.entry t.base (bs.getD 1 0)).map (· + 4) := by
  have hd : i.isDiscarded = false := by
    unfold isBehind at hi
    split at hi <;> [rfl; rfl; cases hi]
  simp [primaryCharge, hd, hi]

/-- Behind DD or FD, an opcode that R134 does not list is a discarded byte's or a base instruction's (30_encoding.md
R137). -/
theorem decodeRow_undocumented {x op n1 n2 : Byte} {i : Instr} (hx : x = 0xDD ∨ x = 0xFD) (hcb : op ≠ 0xCB)
    (hd : op ∉ documentedXY) (h : decodeRow x op n1 n2 = some i) :
    i.isDiscarded = true ∨ isBehind i = true ∧ isPrefixByte op = false := by
  cases hp : isPrefixByte op with
  | false =>
    obtain ⟨⟨hdd, -⟩, hfd, -⟩ := decodeRow_behind hp hd n1 n2
    rcases hx with rfl | rfl
    · obtain ⟨j, -, rfl⟩ := Option.map_eq_some_iff.mp (hdd.symm.trans h)
      exact .inr ⟨rfl, rfl⟩
    · obtain ⟨j, -, rfl⟩ := Option.map_eq_some_iff.mp (hfd.symm.trans h)
      exact .inr ⟨rfl, rfl⟩
  | true =>
    rcases isPrefixByte_iff.mp hp with rfl | rfl | rfl | rfl
    · exact absurd rfl hcb
    all_goals
      rcases hx with rfl | rfl <;>
        · cases h
          exact .inl rfl

/-- The space and the opcode of the row that bytes select (30_encoding.md R127). -/
def opcodePlace (b0 b1 b3 : Byte) : Space × Byte :=
  if b0 = 0xCB then (.cb, b1)
  else if b0 = 0xED then (.ed, b1)
  else if b0 = 0xDD ∨ b0 = 0xFD then (if b1 = 0xCB then (.xycb, b3) else (.xy, b1))
  else (.base, b0)

/-- An instruction has its opcode bytes. -/
theorem opcodeBytes_le_instrBytes (b0 b1 : Byte) : opcodeBytes b0 b1 ≤ instrBytes b0 b1 := by
  unfold opcodeBytes instrBytes
  grind

/-- Bytes that hold an opcode are classified by it. -/
theorem classify_eq {bs : List Byte} (h : opcodeBytes (bs.getD 0 0) (bs.getD 1 0) ≤ bs.length) :
    classify bs = some (opcodePlace (bs.getD 0 0) (bs.getD 1 0) (bs.getD 3 0)) := by
  rcases bs with _ | ⟨b0, _ | ⟨b1, _ | ⟨b2, _ | ⟨b3, bs⟩⟩⟩⟩
  · exact absurd h (by decide)
  all_goals grind [opcodeBytes, classify, opcodePlace]

/-- The default tables charge the opcode of every row but the undocumented DD and FD ones. -/
theorem isCharge_opcodePlace {b0 b1 : Byte} (b3 : Byte) (hed : b0 = 0xED → reservedED b1 = false)
    (hxy : b0 = 0xDD ∨ b0 = 0xFD → b1 ≠ 0xCB → b1 ∈ documentedXY) :
    let (sp, op) := opcodePlace b0 b1 b3
    isCharge 23 (TimingTable.entry (defaultTables.primary sp) op) = true := by
  unfold opcodePlace
  split_ifs with h1 h2 h3 h4
  · exact isCharge_cb b1
  · exact isCharge_ed (hed h2)
  · exact isCharge_xycb b3
  · exact isCharge_xy (hxy h3 h4)
  · exact isCharge_mono (by decide) (isCharge_base (by rw [← Bool.not_eq_true, isPrefixByte_iff]; tauto))

/-- Whatever bytes the decoder reads an instruction from, the default tables charge it (R565). -/
theorem isCharge_primaryCharge {bs : List Byte} {i : Instr} (h : decode bs = .ok i) :
    isCharge 23 (primaryCharge defaultTables i bs) = true := by
  obtain ⟨hlen, hrow⟩ := decode_eq_ok_iff.mp h
  obtain ⟨-, -, -, -, hgate, -⟩ := Profile.mk.inj (profile_of_decodeRow hrow)
  cases hu : isDdfdUndoc i with
  | true =>
    rw [hu] at hgate
    obtain ⟨hx, hcb, hd⟩ := of_decide_eq_true hgate.symm
    rcases decodeRow_undocumented hx hcb hd hrow with hdis | ⟨hb, hp⟩
    · rw [primaryCharge_discarded hdis]
      rfl
    · obtain ⟨c, hc, h4, h19⟩ := isCharge_iff.mp (isCharge_base hp)
      rw [primaryCharge_behind hb, hc]
      exact isCharge_iff.mpr ⟨c + 4, rfl, by omega, by omega⟩
  | false =>
    rw [hu] at hgate
    have hclass := classify_eq ((opcodeBytes_le_instrBytes _ _).trans hlen)
    rw [primaryCharge_of_classify hu hclass]
    refine isCharge_opcodePlace _ (fun h0 => ?ed) fun hx hcb => ?xy
    case ed =>
      have hprofile := decodeRow_profile (bs.getD 0 0) (bs.getD 1 0) (bs.getD 2 0) (bs.getD 3 0)
      by_contra hres
      rw [hrow, if_pos ⟨h0, by simpa using hres⟩] at hprofile
      cases hprofile
    case xy =>
      by_contra hd
      exact of_decide_eq_false hgate.symm ⟨hx, hcb, hd⟩

/-- Settles O26: the bytes of an instruction are read as the instruction. -/
theorem defaultTimingIsComplete : Obligations.DefaultTimingIsComplete := fun i rest hi =>
  isCharge_iff.mp (isCharge_primaryCharge (decodeEncode i rest hi))

end Sys2Proof.Machine
end
